-- ==== Sys2Proof/Word.lean ====
section
/-! DEFINITION. The value types of the block: the code byte, the 512-bit ROM word, the four error codes, the signs and
the three element values. -/

namespace Sys2Proof

/-- A code, or one byte of a serialised word (R29, R44). -/
abbrev Byte := BitVec 8

/-- One ROM entry: 16 lanes of 32 bits (R40, R43). -/
abbrev Word := BitVec 512

/-- The four values of every `err` output (R32); their 2-bit patterns are `Machine.errCode`. -/
inductive Err where
  /-- No error. -/
  | ok
  /-- ENC, MB: axis = 3. -/
  | invalidField
  /-- DEC, ROM: the code is not valid. -/
  | invalidCode
  /-- ROM with ENTRIES = 24: a valid code that has no entry. -/
  | notInTable
  deriving DecidableEq, Repr, Inhabited

/-- A sign, the integer +1 or -1 of R7. -/
inductive Sign where
  | plus
  | minus
  deriving DecidableEq, Repr, Inhabited

/-- An element of a matrix: 0, +1 or -1 (R30). -/
inductive Trit where
  | zero
  | plus
  | minus
  deriving DecidableEq, Repr, Inhabited

/-- A 3×3 matrix, row index first (R9). -/
abbrev Mat3 := Fin 3 → Fin 3 → Trit

/-- A 4×4 homogeneous matrix, row index first (R9). -/
abbrev Mat4 := Fin 4 → Fin 4 → Trit

end Sys2Proof
end

