-- ==== Sys2Proof/Config.lean ====
section
/-! DEFINITION. What an instance of the block fixes at elaboration (R4), and the values the spec leaves free. -/

namespace Sys2Proof

/-- ENTRIES: the ROM depth (R4, R130). The spec gives no default. -/
inductive Entries where
  | e24
  | e48
  deriving DecidableEq, Repr, Inhabited

/-- ROM24_INDEXING: how a code addresses a 24-entry ROM (R4, R132, R133). -/
inductive Rom24Indexing where
  | compressed
  | prefixed
  deriving DecidableEq, Repr, Inhabited

/-- ALG_VARIANT: whether an odd rot swaps the tangent axes (R4, R105). -/
inductive AlgVariant where
  | quarterTurn
  | literal
  deriving DecidableEq, Repr, Inhabited

/-- WORD_ORDER: the lane order of a ROM word (R4, R43). -/
inductive WordOrder where
  | colMajor
  | rowMajor
  deriving DecidableEq, Repr, Inhabited

/-- The elaboration-time parameters of one instance (R4). None can change at run time (R24). -/
structure Params where
  /-- ENTRIES. -/
  entries : Entries
  /-- ROM24_INDEXING. -/
  rom24 : Rom24Indexing
  /-- ALG_VARIANT. -/
  alg : AlgVariant
  /-- WORD_ORDER. -/
  order : WordOrder
  /-- ROM_OUT_REG. -/
  outReg : Bool
  /-- HAS_ENC. -/
  hasEnc : Bool
  deriving DecidableEq, Repr

/-- The defaults of R4 for a given ENTRIES, which has none. -/
def Params.default (e : Entries) : Params :=
  { entries := e, rom24 := .compressed, alg := .quarterTurn, order := .colMajor, outReg := false, hasEnc := true }

/-- The number ENTRIES. -/
def Entries.count : Entries → Nat
  | .e24 => 24
  | .e48 => 48

/-- `q_word` where the spec leaves it unspecified: before the first reset and after a power loss (R37, R173, U9).
A free value, log entry 8. -/
opaque Config.freeWord : Nat → Word

/-- `q_err` where the spec leaves it unspecified (R37, R173, U9). A free value, log entry 8. -/
opaque Config.freeErr : Nat → Err

/-- `q_valid` where the spec leaves it unspecified (R37, R173, U9). A free value, log entry 8. -/
opaque Config.freeValid : Nat → Bool

end Sys2Proof
end

