-- ==== Sys2Proof/Syntax.lean ====
section
/-! DEFINITION. The instructions: one constructor per row of the opcode table, 48 valid codes and three reserved classes;
and the transactions in which the user of the block drives its ports. -/

namespace Sys2Proof

/-- The record of four fields that DEC yields and that ENC and MB take (R29). Each field has exactly its port's
width, so the only value out of range is axis = 3 (R26, R27). -/
structure Orientation where
  /-- Quarter turns about the normal axis. -/
  rot : BitVec 2
  /-- 0: the normal points along the positive axis; 1: along the negative. -/
  sign : BitVec 1
  /-- Optional reflection. -/
  flip : BitVec 1
  /-- The normal axis x, y, z; 3 is invalid. -/
  axis : BitVec 2
  deriving DecidableEq, Repr

/-- A code, by its row in the opcode table (R68): `oA1S0F0R2` is the row O_A1_S0_F0_R2 (R69). The reserved classes carry
the bits their encoding leaves open. -/
inductive Instr where
  | oA0S0F0R0
  | oA0S0F0R1
  | oA0S0F0R2
  | oA0S0F0R3
  | oA0S1F0R0
  | oA0S1F0R1
  | oA0S1F0R2
  | oA0S1F0R3
  | oA0S0F1R0
  | oA0S0F1R1
  | oA0S0F1R2
  | oA0S0F1R3
  | oA0S1F1R0
  | oA0S1F1R1
  | oA0S1F1R2
  | oA0S1F1R3
  | oA1S0F0R0
  | oA1S0F0R1
  | oA1S0F0R2
  | oA1S0F0R3
  | oA1S1F0R0
  | oA1S1F0R1
  | oA1S1F0R2
  | oA1S1F0R3
  | oA1S0F1R0
  | oA1S0F1R1
  | oA1S0F1R2
  | oA1S0F1R3
  | oA1S1F1R0
  | oA1S1F1R1
  | oA1S1F1R2
  | oA1S1F1R3
  | oA2S0F0R0
  | oA2S0F0R1
  | oA2S0F0R2
  | oA2S0F0R3
  | oA2S1F0R0
  | oA2S1F0R1
  | oA2S1F0R2
  | oA2S1F0R3
  | oA2S0F1R0
  | oA2S0F1R1
  | oA2S0F1R2
  | oA2S0F1R3
  | oA2S1F1R0
  | oA2S1F1R1
  | oA2S1F1R2
  | oA2S1F1R3
  /-- `0011fsrr`: axis = 3 is reserved (R63). -/
  | rsvAxis3 (flip sign : BitVec 1) (rot : BitVec 2)
  /-- `01aafsrr`: bit 6 set, bit 7 clear (R64). -/
  | rsvHiB6 (axis : BitVec 2) (flip sign : BitVec 1) (rot : BitVec 2)
  /-- `1haafsrr`: bit 7 set (R64). -/
  | rsvHiB7 (h : BitVec 1) (axis : BitVec 2) (flip sign : BitVec 1) (rot : BitVec 2)
  deriving DecidableEq, Repr

/-- The clock in a transaction: no rising edge of `clk`, or one with the levels of `rst` and `rom_en` sampled at it
(R28, R140; log entry 4). -/
inductive Clk where
  | hold
  | rise (rst en : Bool)
  deriving DecidableEq, Repr

/-- What a transaction that carries a code drives with it (R67, R69; log entry 3). -/
structure Drive where
  /-- The code is put on `dec_code`. -/
  toDec : Bool
  /-- DEC's field outputs are connected to ENC's inputs (R86). -/
  toEnc : Bool
  /-- DEC's field outputs are connected to MB's inputs (R69, CHAIN). -/
  toMb : Bool
  /-- The code is put on `rom_code`. -/
  toRom : Bool
  /-- The clock edge that ends the transaction, if any. -/
  clk : Clk
  deriving DecidableEq, Repr

/-- One transaction of the user's script (R69). -/
inductive Txn where
  /-- A code is presented: DEC, CHAIN, ROM, EDGE, or several of them in one cycle (R67). -/
  | code (d : Drive) (c : Byte)
  /-- ENC's inputs are driven directly: the line `ENC`. -/
  | enc (o : Orientation)
  /-- MB's inputs are driven directly: the line `MB`. -/
  | mb (o : Orientation)
  /-- The power is lost and comes back (R173). -/
  | powerLoss
  deriving DecidableEq, Repr

/-- Nothing is driven. -/
def Drive.none : Drive := { toDec := false, toEnc := false, toMb := false, toRom := false, clk := .hold }

/-- The script line `DEC <code>` (R69). -/
def Txn.dec (c : Byte) : Txn := .code { Drive.none with toDec := true } c

/-- The pseudo-operation `CHAIN <code>`: DEC, with its outputs fed to MB (R69). -/
def Txn.chain (c : Byte) : Txn := .code { Drive.none with toDec := true, toMb := true } c

/-- The script line `ROM <code>` (R69). -/
def Txn.rom (c : Byte) : Txn := .code { Drive.none with toRom := true } c

/-- The script line `EDGE rst= en= code=` (R69). -/
def Txn.edge (rst en : Bool) (c : Byte) : Txn := .code { Drive.none with toRom := true, clk := .rise rst en } c

end Sys2Proof
end

