-- ==== Sys2Proof/WellFormed.lean ====
section
/-! DEFINITION. Which transactions fit an instance of the block. An instruction needs no check of its own: each of its
operands has exactly its field's width (R26, D16), so every term of `Instr` stands for a code. -/

namespace Sys2Proof

/-- A transaction that drives the clock needs an instance with an output register: `clk`, `rst` and `rom_en` are present
when ROM_OUT_REG = 1 (R28). -/
def Clk.wellFormed (p : Params) : Clk → Bool
  | .hold => true
  | .rise _ _ => p.outReg

/-- A transaction drives only ports the instance has: ENC is present only when HAS_ENC = 1 (R26). -/
def Txn.wellFormed (p : Params) : Txn → Bool
  | .code d _ => (!d.toEnc || p.hasEnc) && d.clk.wellFormed p
  | .enc _ => p.hasEnc
  | .mb _ => true
  | .powerLoss => true

end Sys2Proof
end

