-- ==== Sys2Proof/Decode.lean ====
section
/-! DEFINITION. The decoder from bytes to rows of the opcode table, total on any byte, and the encoder. -/

namespace Sys2Proof

/-- The rows of the valid codes 0x00 to 0x0F, in code order (R61, R68). -/
def validRowsA0 : List Instr :=
  [.oA0S0F0R0, .oA0S0F0R1, .oA0S0F0R2, .oA0S0F0R3, .oA0S1F0R0, .oA0S1F0R1, .oA0S1F0R2, .oA0S1F0R3,
   .oA0S0F1R0, .oA0S0F1R1, .oA0S0F1R2, .oA0S0F1R3, .oA0S1F1R0, .oA0S1F1R1, .oA0S1F1R2, .oA0S1F1R3]

/-- The rows of the valid codes 0x10 to 0x1F, in code order (R61, R68). -/
def validRowsA1 : List Instr :=
  [.oA1S0F0R0, .oA1S0F0R1, .oA1S0F0R2, .oA1S0F0R3, .oA1S1F0R0, .oA1S1F0R1, .oA1S1F0R2, .oA1S1F0R3,
   .oA1S0F1R0, .oA1S0F1R1, .oA1S0F1R2, .oA1S0F1R3, .oA1S1F1R0, .oA1S1F1R1, .oA1S1F1R2, .oA1S1F1R3]

/-- The rows of the valid codes 0x20 to 0x2F, in code order (R61, R68). -/
def validRowsA2 : List Instr :=
  [.oA2S0F0R0, .oA2S0F0R1, .oA2S0F0R2, .oA2S0F0R3, .oA2S1F0R0, .oA2S1F0R1, .oA2S1F0R2, .oA2S1F0R3,
   .oA2S0F1R0, .oA2S0F1R1, .oA2S0F1R2, .oA2S0F1R3, .oA2S1F1R0, .oA2S1F1R1, .oA2S1F1R2, .oA2S1F1R3]

/-- The 48 valid rows, entry `c` for the code `c` (R61, R68). -/
def validRows : List Instr := validRowsA0 ++ validRowsA1 ++ validRowsA2

/-- The row of a byte: every byte has exactly one (R68). A code is always one byte (R65). -/
def decodeByte (b : Byte) : Instr :=
  match validRows[b.toNat]? with
  | some i => i
  | none =>
    let rot := b.extractLsb' 0 2
    let sign := b.extractLsb' 2 1
    let flip := b.extractLsb' 3 1
    let axis := b.extractLsb' 4 2
    if b.getLsbD 7 then .rsvHiB7 (b.extractLsb' 6 1) axis flip sign rot
    else if b.getLsbD 6 then .rsvHiB6 axis flip sign rot
    else .rsvAxis3 flip sign rot

/-- Why the decoder gives no instruction. -/
inductive DecodeError where
  /-- There is no byte to decode: a code is exactly one byte (R65). Safe. -/
  | noByte
  deriving DecidableEq, Repr

/-- The instruction at the head of a list of bytes, and the bytes after it. -/
def decode : List Byte → Except DecodeError (Instr × List Byte)
  | [] => .error .noByte
  | b :: rest => .ok (decodeByte b, rest)

/-- The code byte of an instruction, from the encoding column of the opcode table (R60, R63, R64, R68). -/
def encodeByte : Instr → Byte
  | .oA0S0F0R0 => 0b00000000#8
  | .oA0S0F0R1 => 0b00000001#8
  | .oA0S0F0R2 => 0b00000010#8
  | .oA0S0F0R3 => 0b00000011#8
  | .oA0S1F0R0 => 0b00000100#8
  | .oA0S1F0R1 => 0b00000101#8
  | .oA0S1F0R2 => 0b00000110#8
  | .oA0S1F0R3 => 0b00000111#8
  | .oA0S0F1R0 => 0b00001000#8
  | .oA0S0F1R1 => 0b00001001#8
  | .oA0S0F1R2 => 0b00001010#8
  | .oA0S0F1R3 => 0b00001011#8
  | .oA0S1F1R0 => 0b00001100#8
  | .oA0S1F1R1 => 0b00001101#8
  | .oA0S1F1R2 => 0b00001110#8
  | .oA0S1F1R3 => 0b00001111#8
  | .oA1S0F0R0 => 0b00010000#8
  | .oA1S0F0R1 => 0b00010001#8
  | .oA1S0F0R2 => 0b00010010#8
  | .oA1S0F0R3 => 0b00010011#8
  | .oA1S1F0R0 => 0b00010100#8
  | .oA1S1F0R1 => 0b00010101#8
  | .oA1S1F0R2 => 0b00010110#8
  | .oA1S1F0R3 => 0b00010111#8
  | .oA1S0F1R0 => 0b00011000#8
  | .oA1S0F1R1 => 0b00011001#8
  | .oA1S0F1R2 => 0b00011010#8
  | .oA1S0F1R3 => 0b00011011#8
  | .oA1S1F1R0 => 0b00011100#8
  | .oA1S1F1R1 => 0b00011101#8
  | .oA1S1F1R2 => 0b00011110#8
  | .oA1S1F1R3 => 0b00011111#8
  | .oA2S0F0R0 => 0b00100000#8
  | .oA2S0F0R1 => 0b00100001#8
  | .oA2S0F0R2 => 0b00100010#8
  | .oA2S0F0R3 => 0b00100011#8
  | .oA2S1F0R0 => 0b00100100#8
  | .oA2S1F0R1 => 0b00100101#8
  | .oA2S1F0R2 => 0b00100110#8
  | .oA2S1F0R3 => 0b00100111#8
  | .oA2S0F1R0 => 0b00101000#8
  | .oA2S0F1R1 => 0b00101001#8
  | .oA2S0F1R2 => 0b00101010#8
  | .oA2S0F1R3 => 0b00101011#8
  | .oA2S1F1R0 => 0b00101100#8
  | .oA2S1F1R1 => 0b00101101#8
  | .oA2S1F1R2 => 0b00101110#8
  | .oA2S1F1R3 => 0b00101111#8
  | .rsvAxis3 flip sign rot => 0b0011#4 ++ flip ++ sign ++ rot
  | .rsvHiB6 axis flip sign rot => 0b01#2 ++ axis ++ flip ++ sign ++ rot
  | .rsvHiB7 h axis flip sign rot => 0b1#1 ++ h ++ axis ++ flip ++ sign ++ rot

/-- The bytes of an instruction: one code byte (R65). -/
def encode (i : Instr) : List Byte := [encodeByte i]

/-- The bytes of a word numbered as the opcode table numbers it: bit 0 is the least significant bit of the first byte. -/
def bytesOf : Nat → Nat → List Byte
  | 0, _ => []
  | n + 1, w => BitVec.ofNat 8 w :: bytesOf n (w / 256)

/-- The instruction the decoder reads from a table word of `nbits` bits. -/
def decodeTableWord (nbits w : Nat) : Option Instr :=
  match decode (bytesOf (nbits / 8) w) with
  | .ok (i, _) => some i
  | .error _ => none

end Sys2Proof
end

