-- ==== Sys2Proof/Machine/State.lean ====
section
/-! DEFINITION. The machine's state, the reasons a step can stop, and the state after reset. -/

namespace Sys2Proof.Machine

/-- The ROM's output register, present when ROM_OUT_REG = 1 (R34). -/
structure OutReg where
  /-- `q_word`. -/
  word : Word
  /-- `q_err`. -/
  err : Err
  /-- `q_valid`. -/
  valid : Bool
  deriving DecidableEq, Repr

/-- The reset values of the output register (R34). -/
def OutReg.reset : OutReg := { word := 0, err := .ok, valid := false }

/-- The levels at the data inputs of the four units (R25 to R28). -/
structure Ports where
  /-- `dec_code` (R25). -/
  decCode : Byte
  /-- `enc_rot`, `enc_sign`, `enc_flip`, `enc_axis` (R26). -/
  enc : Orientation
  /-- `mb_rot`, `mb_sign`, `mb_flip`, `mb_axis` (R27). -/
  mb : Orientation
  /-- `rom_code` (R28). -/
  romCode : Byte
  deriving DecidableEq, Repr

/-- ROM entries that differ from the constants of R131 to R133, as pairs of index and word: indices strictly rising, no
pair equal to what an unlisted index reads as. The block has no write, so none ever does (R33, R46; log entry 11). -/
abbrev Rom := List (Nat × Word)

/-- Everything the spec gives the block, and the model's own `drive` selects, `script` and `draws`. -/
structure State where
  /-- The elaboration-time parameters (R4). -/
  params : Params
  /-- The ROM contents (R20, R33), as their difference from R131 to R133. -/
  rom : Rom
  /-- The output register (R34). -/
  q : OutReg
  /-- The data input ports (R25 to R28). -/
  ports : Ports
  /-- What the current transaction drives, with `clk`, `rst` and `rom_en` (R28; log entries 3, 4). -/
  drive : Drive
  /-- The transactions still to come (R69; log entry 2). The model's own. -/
  script : List Txn
  /-- Free draws of the output register taken so far (R37; log entry 8). The model's own. -/
  draws : Nat
  deriving DecidableEq, Repr

/-- Why the machine stops. No unit of the block ever stops by itself: each is a total function of its inputs (R87, R184). -/
inductive Fault where
  /-- Raised by `fetch`, before any instruction runs: the next transaction drives a port that this instance does not
  have (ENC with HAS_ENC = 0, R26; `clk`, `rst`, `rom_en` with ROM_OUT_REG = 0, R28). Safe; log entry 9. -/
  | portAbsent
  deriving DecidableEq, Repr

/-- Why an instruction has no meaning. -/
inductive Refusal where
  /-- Raised by an arm of `exec` whose instruction has no meaning yet; no arm is one. Safe. -/
  | notModelled (mnemonic : String)
  deriving DecidableEq, Repr

namespace State

/-- The state with another output register. -/
def setQ (s : State) (q : OutReg) : State := { s with q := q }

/-- The state with other input levels. -/
def setPorts (s : State) (p : Ports) : State := { s with ports := p }

/-- The state with another current transaction. -/
def setDrive (s : State) (d : Drive) : State := { s with drive := d }

/-- The state with other transactions to come. -/
def setScript (s : State) (l : List Txn) : State := { s with script := l }

/-- The state with another count of free draws. -/
def setDraws (s : State) (n : Nat) : State := { s with draws := n }

/-- The input levels named at reset: the spec gives an input no value. DESIGN CHOICE, log entry 6. -/
def resetPorts : Ports :=
  { decCode := 0, enc := { rot := 0, sign := 0, flip := 0, axis := 0 }, mb := { rot := 0, sign := 0, flip := 0, axis := 0 },
    romCode := 0 }

/-- The state right after reset of an instance with the given parameters: the ROM holds the constants of R131 to R133 and
the output register its reset values (R37). -/
def resetOf (p : Params) : State :=
  { params := p, rom := [], q := .reset, ports := resetPorts, drive := .none, script := [], draws := 0 }

/-- The state at power-on, before the first reset: the output register is unspecified (R37, R182). -/
def powerOn (p : Params) : State :=
  { resetOf p with
    q := { word := Config.freeWord 0, err := Config.freeErr 0, valid := Config.freeValid 0 }, draws := 1 }

/-- The state right after reset, for the defaults of R4. R4 gives ENTRIES no default: 48 is a DESIGN CHOICE (log entry 1)
that no statement rests on. -/
def reset : State := resetOf (.default .e48)

end State

end Sys2Proof.Machine
end

