-- ==== Sys2Proof/Machine/Operands.lean ====
section
/-! DEFINITION. The operand forms: the fields of a code, the packing of fields, and the 24-entry index format. -/

namespace Sys2Proof.Machine

/-- The four fields of a code, whatever its validity: bits 7:6 reach no field (R60, R80, R82). -/
def fieldsOf (c : Byte) : Orientation :=
  { rot := c.extractLsb' 0 2, sign := c.extractLsb' 2 1, flip := c.extractLsb' 3 1, axis := c.extractLsb' 4 2 }

/-- The code of four fields: `{2'b00, axis, flip, sign, rot}` (R83). -/
def packFields (o : Orientation) : Byte := 0#2 ++ o.axis ++ o.flip ++ o.sign ++ o.rot

/-- The compressed 24-entry index `{code[5:4], code[2:0]}` (R66). -/
def idx24 (c : Byte) : BitVec 5 := c.extractLsb' 4 2 ++ c.extractLsb' 0 3

/-- The code of a compressed index: `{2'b00, i[4:3], 1'b0, i[2:0]}` (R66). -/
def code24 (i : BitVec 5) : Byte := 0#2 ++ i.extractLsb' 3 2 ++ 0#1 ++ i.extractLsb' 0 3

end Sys2Proof.Machine
end

