-- ==== Sys2Proof/Machine/Flags.lean ====
section
/-! DEFINITION. The status outputs: the validity of a code, the `err` value of each unit, its bit pattern, and the update
of the output register with `rom_valid`. -/

namespace Sys2Proof.Machine

/-- `valid(code)`: bits 7:6 are 0 and the axis bits are not 3 (R62). -/
def valid (c : Byte) : Bool := c.extractLsb' 6 2 == 0#2 && c.extractLsb' 4 2 != 3#2

/-- The 2-bit pattern of an error (R32). -/
def errCode : Err → BitVec 2
  | .ok => 0b00#2
  | .invalidField => 0b01#2
  | .invalidCode => 0b10#2
  | .notInTable => 0b11#2

/-- `dec_err` (R81). -/
def decErr (c : Byte) : Err := if valid c then .ok else .invalidCode

/-- `enc_err` (R84) and `mb_err` (R100, R107): the only field value out of range is axis = 3. -/
def fieldErr (o : Orientation) : Err := if o.axis = 3#2 then .invalidField else .ok

/-- The output register after a rising edge with the given `rst` and `rom_en`, where `r` is what the ROM looks up: reset
wins over enable, and without either the register holds (R140). An enabled edge before the first reset edge, or after a
power loss, loads the lookup as any other does: DESIGN CHOICE, R140 and R184 followed over R182, R37 and R173 (log entry
17). -/
def nextOutReg (rst en : Bool) (r : Word × Err) (q : OutReg) : OutReg :=
  if rst then .reset else if en then { word := r.1, err := r.2, valid := true } else q

end Sys2Proof.Machine
end

