-- ==== Sys2Proof/Machine/Decoder.lean ====
section
/-! DEFINITION. The units DEC and ENC as functions of their inputs. -/

namespace Sys2Proof.Machine

/-- The outputs of DEC: `dec_rot`, `dec_sign`, `dec_flip`, `dec_axis` and `dec_err` (R25). -/
structure DecOut where
  fields : Orientation
  err : Err
  deriving DecidableEq, Repr

/-- The outputs of ENC: `enc_code` and `enc_err` (R26). -/
structure EncOut where
  code : Byte
  err : Err
  deriving DecidableEq, Repr

/-- DECODE (R80): the raw fields are driven even on InvalidCode (R82). -/
def decOut (c : Byte) : DecOut := { fields := fieldsOf c, err := decErr c }

/-- ENCODE (R83): the packed code is driven even on InvalidField. -/
def encOut (o : Orientation) : EncOut := { code := packFields o, err := fieldErr o }

end Sys2Proof.Machine
end

