-- ==== Sys2Proof/Machine/MatrixBuilder.lean ====
section
/-! DEFINITION. The unit MB: the orientation algebra, the matrix, its packing onto the ports, and the homogeneous form. -/

namespace Sys2Proof.Machine

/-- The integer of a sign (R7). -/
def signInt : Sign → Int
  | .plus => 1
  | .minus => -1

/-- The product of two signs. -/
def signMul : Sign → Sign → Sign
  | .plus, x => x
  | .minus, .plus => .minus
  | .minus, .minus => .plus

/-- The element with a sign's value. -/
def signTrit : Sign → Trit
  | .plus => .plus
  | .minus => .minus

/-- The integer of an element (R30). -/
def tritInt : Trit → Int
  | .zero => 0
  | .plus => 1
  | .minus => -1

/-- The two bits of an element on `mb_m` (R30). -/
def tritBits : Trit → BitVec 2
  | .zero => 0b00#2
  | .plus => 0b01#2
  | .minus => 0b11#2

/-- The binary32 pattern of an element on `mb_mf` and `rom_word` (R31, R108). -/
def f32 : Trit → BitVec 32
  | .zero => 0x00000000#32
  | .plus => 0x3F800000#32
  | .minus => 0xBF800000#32

/-- `axis_add(a, d, n)` with the Euclidean remainder (R101). -/
def axisAdd (a d n : Int) : Int := (a + d) % n

/-- `ROT_SIGN`, five entries (R104). -/
def rotSign : Fin 5 → Sign := ![.plus, .plus, .minus, .minus, .plus]

/-- Three (axis, sign) pairs, pair c the image of the canonical basis vector c (R106). -/
structure Triple where
  axes : Vector Int 3
  signs : Vector Sign 3
  deriving DecidableEq, Repr

/-- The triple of an orientation whose axis is not 3 (R100, R102 to R105). -/
def tripleOf (v : AlgVariant) (o : Orientation) : Triple :=
  let a0 : Int := o.axis.toNat
  let s0 : Sign := if o.sign = 0#1 then .plus else .minus
  let t1 := axisAdd a0 (signInt s0) 3
  let t2 := axisAdd a0 (-signInt s0) 3
  let fs : Sign := if o.flip = 0#1 then .plus else .minus
  let s1 := rotSign o.rot.toFin.castSucc
  let s2 := signMul (rotSign o.rot.toFin.succ) fs
  let swap := match v with
    | .quarterTurn => o.rot.getLsbD 0
    | .literal => false
  if swap then { axes := #v[a0, t2, t1], signs := #v[s0, s1, s2] }
  else { axes := #v[a0, t1, t2], signs := #v[s0, s1, s2] }

/-- The matrix of a triple: column c has its sole nonzero entry, `sign_c`, at row `axis_c` (R106). -/
def matOf (t : Triple) : Mat3 := fun r c =>
  if (r.val : Int) = t.axes[c] then signTrit t.signs[c] else .zero

/-- The homogeneous form: row 3 and column 3 are `[0,0,0,1]` (R115). -/
def homog (M : Mat3) : Mat4 := fun r c =>
  if h : r.val < 3 ∧ c.val < 3 then M ⟨r.val, h.1⟩ ⟨c.val, h.2⟩
  else if r = c then .plus else .zero

/-- The elements of a 3×3 matrix in lane order: M[r][c] at `k = 3c + r` (R108, R109). -/
def lanes3 (M : Mat3) : List Trit := [0, 1, 2].flatMap fun c => [0, 1, 2].map fun r => M r c

/-- The value of a list of lanes of `w` bits, the first lane in the least significant bits. -/
def packLanes {w : Nat} : List (BitVec w) → Nat
  | [] => 0
  | x :: xs => x.toNat + 2 ^ w * packLanes xs

/-- `Trits(M)`, the port `mb_m` (R109). -/
def trits (M : Mat3) : BitVec 18 := BitVec.ofNat 18 (packLanes ((lanes3 M).map tritBits))

/-- `F32s(M)`, the port `mb_mf` (R108). -/
def f32s (M : Mat3) : BitVec 288 := BitVec.ofNat 288 (packLanes ((lanes3 M).map f32))

/-- `{axis2, axis1, axis0}`, the port `mb_pair_axis` (R106). -/
def pairAxis (t : Triple) : BitVec 6 :=
  BitVec.ofInt 2 t.axes[2] ++ BitVec.ofInt 2 t.axes[1] ++ BitVec.ofInt 2 t.axes[0]

/-- `{s2 = -1, s1 = -1, s0 = -1}`, the port `mb_pair_neg` (R106). -/
def pairNeg (t : Triple) : BitVec 3 :=
  BitVec.ofBool (t.signs[2] == .minus) ++ BitVec.ofBool (t.signs[1] == .minus) ++ BitVec.ofBool (t.signs[0] == .minus)

/-- The outputs of MB (R27). -/
structure MbOut where
  /-- `mb_pair_axis`. -/
  pairAxis : BitVec 6
  /-- `mb_pair_neg`. -/
  pairNeg : BitVec 3
  /-- `mb_m`. -/
  m : BitVec 18
  /-- `mb_mf`. -/
  mf : BitVec 288
  /-- `mb_err`. -/
  err : Err
  deriving DecidableEq, Repr

/-- `raise E` in MB: the error on `mb_err`, with the error-case data, a zero matrix and zero pairs (R8, R107, R160). -/
def raiseMb (e : Err) : MbOut := { pairAxis := 0, pairNeg := 0, m := 0, mf := 0, err := e }

/-- BUILD_MATRIX (R100). No matrix is built for an invalid axis (R107, R174). -/
def mbOut (v : AlgVariant) (o : Orientation) : MbOut :=
  if fieldErr o = .ok then
    let t := tripleOf v o
    { pairAxis := Machine.pairAxis t, pairNeg := Machine.pairNeg t, m := trits (matOf t), mf := f32s (matOf t), err := .ok }
  else raiseMb (fieldErr o)

end Sys2Proof.Machine
end

