-- ==== Sys2Proof/Machine/LookupRom.lean ====
section
/-! DEFINITION. The unit ROM: the contents, the read of one entry, the lookup of a code, and the serialisation of a word. -/

namespace Sys2Proof.Machine

/-- The word of zero bits that every ROM error returns (R138). -/
def zeroWord : Word := 0

/-- The elements of a 4×4 matrix in lane order (R43, R134). -/
def lanes4 (order : WordOrder) (H : Mat4) : List Trit :=
  match order with
  | .colMajor => [0, 1, 2, 3].flatMap fun c => [0, 1, 2, 3].map fun r => H r c
  | .rowMajor => [0, 1, 2, 3].flatMap fun r => [0, 1, 2, 3].map fun c => H r c

/-- `Word(H)` (R134). -/
def wordOf (order : WordOrder) (H : Mat4) : Word := BitVec.ofNat 512 (packLanes ((lanes4 order H).map f32))

/-- The code whose matrix entry `i` holds: `code24(i)` in a compressed 24-entry ROM, else `i` itself (R131 to R133). -/
def entryCode (p : Params) (i : Nat) : Byte :=
  match p.entries, p.rom24 with
  | .e24, .compressed => code24 (BitVec.ofNat 5 i)
  | _, _ => BitVec.ofNat 8 i

/-- The 3×3 matrix that entry `i` holds (R131 to R133). -/
def entryMat (p : Params) (i : Nat) : Mat3 := matOf (tripleOf p.alg (fieldsOf (entryCode p i)))

/-- The contents of entry `i`, for `i` below ENTRIES: what an unlisted index of `Rom` reads as (R131 to R133, R142). -/
def romContents (p : Params) (i : Nat) : Word := wordOf p.order (homog (entryMat p i))

/-- `RomRead(i)`: the whole word of entry `i` (R8, R46, R47). -/
def romRead (p : Params) : Rom → Nat → Word
  | [], i => romContents p i
  | (j, w) :: m, i => if j = i then w else romRead p m i

/-- The canonical form of `Rom`: the indices rise strictly from `lo`, stay below ENTRIES, and no pair says what an
unlisted index reads as anyway. -/
def romWf (p : Params) (lo : Nat) : Rom → Bool
  | [] => true
  | (j, w) :: m => lo ≤ j && j < p.entries.count && w != romContents p j && romWf p (j + 1) m

/-- `raise E` in the ROM: the error, with ZERO_WORD (R8, R138, R160). -/
def raiseRom (e : Err) : Word × Err := (zeroWord, e)

/-- The entry a valid code reads, if it has one (R135 to R137). -/
def entryOf (p : Params) (c : Byte) : Option Nat :=
  match p.entries, p.rom24 with
  | .e48, _ => some c.toNat
  | .e24, .compressed => if c.getLsbD 3 then none else some (idx24 c).toNat
  | .e24, .prefixed => if 24 ≤ c.toNat then none else some c.toNat

/-- `Lookup(code)`: InvalidCode is checked before NotInTable (R135 to R138). -/
def lookup (p : Params) (m : Rom) (c : Byte) : Word × Err :=
  if valid c then
    match entryOf p c with
    | some i => (romRead p m i, .ok)
    | none => raiseRom .notInTable
  else raiseRom .invalidCode

/-- The bytes of a word, or of `mb_mf`: byte `b` is bits [8b+7:8b] (R44). -/
def serialise {n : Nat} (w : BitVec n) : List Byte := (List.range (n / 8)).map fun b => w.extractLsb' (8 * b) 8

/-- The outputs of the ROM (R28). -/
structure RomOut where
  /-- `rom_word`. -/
  word : Word
  /-- `rom_err`. -/
  err : Err
  /-- `rom_valid`. -/
  valid : Bool
  deriving DecidableEq, Repr

end Sys2Proof.Machine
end

