-- ==== Sys2Proof/Machine/Ops.lean ====
section
/-! DEFINITION. The named operations over the state: what each output port shows, presenting a code, the clock edge, a
power loss, and taking the next transaction. -/

namespace Sys2Proof.Machine

/-- What DEC's outputs show (R80). -/
def decPort (s : State) : DecOut := decOut s.ports.decCode

/-- What ENC's outputs show, if ENC is present (R26, R83). -/
def encPort (s : State) : Option EncOut := if s.params.hasEnc then some (encOut s.ports.enc) else none

/-- What MB's outputs show (R100). -/
def mbPort (s : State) : MbOut := mbOut s.params.alg s.ports.mb

/-- The lookup of the code at `rom_code` (R135). -/
def romLookup (s : State) : Word × Err := lookup s.params s.rom s.ports.romCode

/-- What the ROM's outputs show: the lookup itself (R139), or the output register (R34, R140). -/
def romPort (s : State) : RomOut :=
  if s.params.outReg then { word := s.q.word, err := s.q.err, valid := s.q.valid }
  else { word := (romLookup s).1, err := (romLookup s).2, valid := true }

/-- The input levels once code `c` is put where the current transaction puts it; DEC's field outputs reach the units they
are connected to in the same evaluation (R67, R69, R86; log entries 3 and 12). -/
def drivenPorts (c : Byte) (s : State) : Ports :=
  let dec := if s.drive.toDec then c else s.ports.decCode
  { decCode := dec
    enc := if s.drive.toEnc && s.params.hasEnc then (decOut dec).fields else s.ports.enc
    mb := if s.drive.toMb then (decOut dec).fields else s.ports.mb
    romCode := if s.drive.toRom then c else s.ports.romCode }

/-- The current transaction's clock edge, if it has one and the instance has an output register (R140). -/
def clockEdge (s : State) : State :=
  match s.drive.clk with
  | .hold => s
  | .rise rst en => if s.params.outReg then s.setQ (nextOutReg rst en (romLookup s) s.q) else s

/-- Presenting a code to the block: the meaning every row of the opcode table shares (R68). An error it causes is a value
of an `err` output and changes nothing else (R161). -/
def present (c : Byte) (s : State) : State := clockEdge (s.setPorts (drivenPorts c s))

/-- A power loss: the output register's contents become unspecified, the ROM's do not change (R173, R181). -/
def powerLoss (s : State) : State :=
  if s.params.outReg then
    (s.setQ { word := Config.freeWord s.draws, err := Config.freeErr s.draws, valid := Config.freeValid s.draws }).setDraws
      (s.draws + 1)
  else s

/-- The effect of a transaction that has no code byte, and the code byte of one that has (R69). -/
def beginTxn (t : Txn) (s : State) : Option Byte × State :=
  match t with
  | .code d c => (some c, s.setDrive d)
  | .enc o => (none, (s.setDrive .none).setPorts { s.ports with enc := o })
  | .mb o => (none, (s.setDrive .none).setPorts { s.ports with mb := o })
  | .powerLoss => (none, powerLoss (s.setDrive .none))

/-- Taking the next transaction off the script. With none to come, nothing is driven and nothing changes (log entry 5). -/
def fetch (s : State) : Except Fault (Option Byte × State) :=
  match s.script with
  | [] => .ok (none, s)
  | t :: rest => if t.wellFormed s.params then .ok (beginTxn t (s.setScript rest)) else .error .portAbsent

/-- A transaction that presents a code to every unit the instance has, with an enabled clock edge if it has a clock. -/
def driveAll (p : Params) : Drive :=
  { toDec := true, toEnc := p.hasEnc, toMb := true, toRom := true, clk := if p.outReg then .rise false true else .hold }

/-- The state whose next transaction presents the code byte of a table word to every unit the instance has; this stands
for the user placing a program (log entry 2). -/
def placeCode (nbits w : Nat) (s : State) : State :=
  s.setScript (.code (driveAll s.params) (BitVec.ofNat 8 (w % 2 ^ nbits)) :: s.script)

end Sys2Proof.Machine
end

