-- ==== Sys2Proof/Machine/Axis0.lean ====
section
/-! DEFINITION. The meanings of the valid codes with axis = 0: each presents its code byte (R68, R80, R100, R135). -/

namespace Sys2Proof.Machine

/-- O_A0_S0_F0_R0: axis 0, sign 0, flip 0, rot 0. -/
def execOA0S0F0R0 (s : State) : Host.Outcome State Fault Refusal := .next (present 0b00000000#8 s)

/-- O_A0_S0_F0_R1: axis 0, sign 0, flip 0, rot 1. -/
def execOA0S0F0R1 (s : State) : Host.Outcome State Fault Refusal := .next (present 0b00000001#8 s)

/-- O_A0_S0_F0_R2: axis 0, sign 0, flip 0, rot 2. -/
def execOA0S0F0R2 (s : State) : Host.Outcome State Fault Refusal := .next (present 0b00000010#8 s)

/-- O_A0_S0_F0_R3: axis 0, sign 0, flip 0, rot 3. -/
def execOA0S0F0R3 (s : State) : Host.Outcome State Fault Refusal := .next (present 0b00000011#8 s)

/-- O_A0_S1_F0_R0: axis 0, sign 1, flip 0, rot 0. -/
def execOA0S1F0R0 (s : State) : Host.Outcome State Fault Refusal := .next (present 0b00000100#8 s)

/-- O_A0_S1_F0_R1: axis 0, sign 1, flip 0, rot 1. -/
def execOA0S1F0R1 (s : State) : Host.Outcome State Fault Refusal := .next (present 0b00000101#8 s)

/-- O_A0_S1_F0_R2: axis 0, sign 1, flip 0, rot 2. -/
def execOA0S1F0R2 (s : State) : Host.Outcome State Fault Refusal := .next (present 0b00000110#8 s)

/-- O_A0_S1_F0_R3: axis 0, sign 1, flip 0, rot 3. -/
def execOA0S1F0R3 (s : State) : Host.Outcome State Fault Refusal := .next (present 0b00000111#8 s)

/-- O_A0_S0_F1_R0: axis 0, sign 0, flip 1, rot 0. -/
def execOA0S0F1R0 (s : State) : Host.Outcome State Fault Refusal := .next (present 0b00001000#8 s)

/-- O_A0_S0_F1_R1: axis 0, sign 0, flip 1, rot 1. -/
def execOA0S0F1R1 (s : State) : Host.Outcome State Fault Refusal := .next (present 0b00001001#8 s)

/-- O_A0_S0_F1_R2: axis 0, sign 0, flip 1, rot 2. -/
def execOA0S0F1R2 (s : State) : Host.Outcome State Fault Refusal := .next (present 0b00001010#8 s)

/-- O_A0_S0_F1_R3: axis 0, sign 0, flip 1, rot 3. -/
def execOA0S0F1R3 (s : State) : Host.Outcome State Fault Refusal := .next (present 0b00001011#8 s)

/-- O_A0_S1_F1_R0: axis 0, sign 1, flip 1, rot 0. -/
def execOA0S1F1R0 (s : State) : Host.Outcome State Fault Refusal := .next (present 0b00001100#8 s)

/-- O_A0_S1_F1_R1: axis 0, sign 1, flip 1, rot 1. -/
def execOA0S1F1R1 (s : State) : Host.Outcome State Fault Refusal := .next (present 0b00001101#8 s)

/-- O_A0_S1_F1_R2: axis 0, sign 1, flip 1, rot 2. -/
def execOA0S1F1R2 (s : State) : Host.Outcome State Fault Refusal := .next (present 0b00001110#8 s)

/-- O_A0_S1_F1_R3: axis 0, sign 1, flip 1, rot 3. -/
def execOA0S1F1R3 (s : State) : Host.Outcome State Fault Refusal := .next (present 0b00001111#8 s)

end Sys2Proof.Machine
end

