-- ==== Sys2Proof/Machine/Axis1.lean ====
section
/-! DEFINITION. The meanings of the valid codes with axis = 1: each presents its code byte (R68, R80, R100, R135). -/

namespace Sys2Proof.Machine

/-- O_A1_S0_F0_R0: axis 1, sign 0, flip 0, rot 0. -/
def execOA1S0F0R0 (s : State) : Host.Outcome State Fault Refusal := .next (present 0b00010000#8 s)

/-- O_A1_S0_F0_R1: axis 1, sign 0, flip 0, rot 1. -/
def execOA1S0F0R1 (s : State) : Host.Outcome State Fault Refusal := .next (present 0b00010001#8 s)

/-- O_A1_S0_F0_R2: axis 1, sign 0, flip 0, rot 2. -/
def execOA1S0F0R2 (s : State) : Host.Outcome State Fault Refusal := .next (present 0b00010010#8 s)

/-- O_A1_S0_F0_R3: axis 1, sign 0, flip 0, rot 3. -/
def execOA1S0F0R3 (s : State) : Host.Outcome State Fault Refusal := .next (present 0b00010011#8 s)

/-- O_A1_S1_F0_R0: axis 1, sign 1, flip 0, rot 0. -/
def execOA1S1F0R0 (s : State) : Host.Outcome State Fault Refusal := .next (present 0b00010100#8 s)

/-- O_A1_S1_F0_R1: axis 1, sign 1, flip 0, rot 1. -/
def execOA1S1F0R1 (s : State) : Host.Outcome State Fault Refusal := .next (present 0b00010101#8 s)

/-- O_A1_S1_F0_R2: axis 1, sign 1, flip 0, rot 2. -/
def execOA1S1F0R2 (s : State) : Host.Outcome State Fault Refusal := .next (present 0b00010110#8 s)

/-- O_A1_S1_F0_R3: axis 1, sign 1, flip 0, rot 3. -/
def execOA1S1F0R3 (s : State) : Host.Outcome State Fault Refusal := .next (present 0b00010111#8 s)

/-- O_A1_S0_F1_R0: axis 1, sign 0, flip 1, rot 0. -/
def execOA1S0F1R0 (s : State) : Host.Outcome State Fault Refusal := .next (present 0b00011000#8 s)

/-- O_A1_S0_F1_R1: axis 1, sign 0, flip 1, rot 1. -/
def execOA1S0F1R1 (s : State) : Host.Outcome State Fault Refusal := .next (present 0b00011001#8 s)

/-- O_A1_S0_F1_R2: axis 1, sign 0, flip 1, rot 2. -/
def execOA1S0F1R2 (s : State) : Host.Outcome State Fault Refusal := .next (present 0b00011010#8 s)

/-- O_A1_S0_F1_R3: axis 1, sign 0, flip 1, rot 3. -/
def execOA1S0F1R3 (s : State) : Host.Outcome State Fault Refusal := .next (present 0b00011011#8 s)

/-- O_A1_S1_F1_R0: axis 1, sign 1, flip 1, rot 0. -/
def execOA1S1F1R0 (s : State) : Host.Outcome State Fault Refusal := .next (present 0b00011100#8 s)

/-- O_A1_S1_F1_R1: axis 1, sign 1, flip 1, rot 1. -/
def execOA1S1F1R1 (s : State) : Host.Outcome State Fault Refusal := .next (present 0b00011101#8 s)

/-- O_A1_S1_F1_R2: axis 1, sign 1, flip 1, rot 2. -/
def execOA1S1F1R2 (s : State) : Host.Outcome State Fault Refusal := .next (present 0b00011110#8 s)

/-- O_A1_S1_F1_R3: axis 1, sign 1, flip 1, rot 3. -/
def execOA1S1F1R3 (s : State) : Host.Outcome State Fault Refusal := .next (present 0b00011111#8 s)

end Sys2Proof.Machine
end

