-- ==== Sys2Proof/Machine/Axis2.lean ====
section
/-! DEFINITION. The meanings of the valid codes with axis = 2: each presents its code byte (R68, R80, R100, R135). -/

namespace Sys2Proof.Machine

/-- O_A2_S0_F0_R0: axis 2, sign 0, flip 0, rot 0. -/
def execOA2S0F0R0 (s : State) : Host.Outcome State Fault Refusal := .next (present 0b00100000#8 s)

/-- O_A2_S0_F0_R1: axis 2, sign 0, flip 0, rot 1. -/
def execOA2S0F0R1 (s : State) : Host.Outcome State Fault Refusal := .next (present 0b00100001#8 s)

/-- O_A2_S0_F0_R2: axis 2, sign 0, flip 0, rot 2. -/
def execOA2S0F0R2 (s : State) : Host.Outcome State Fault Refusal := .next (present 0b00100010#8 s)

/-- O_A2_S0_F0_R3: axis 2, sign 0, flip 0, rot 3. -/
def execOA2S0F0R3 (s : State) : Host.Outcome State Fault Refusal := .next (present 0b00100011#8 s)

/-- O_A2_S1_F0_R0: axis 2, sign 1, flip 0, rot 0. -/
def execOA2S1F0R0 (s : State) : Host.Outcome State Fault Refusal := .next (present 0b00100100#8 s)

/-- O_A2_S1_F0_R1: axis 2, sign 1, flip 0, rot 1. -/
def execOA2S1F0R1 (s : State) : Host.Outcome State Fault Refusal := .next (present 0b00100101#8 s)

/-- O_A2_S1_F0_R2: axis 2, sign 1, flip 0, rot 2. -/
def execOA2S1F0R2 (s : State) : Host.Outcome State Fault Refusal := .next (present 0b00100110#8 s)

/-- O_A2_S1_F0_R3: axis 2, sign 1, flip 0, rot 3. -/
def execOA2S1F0R3 (s : State) : Host.Outcome State Fault Refusal := .next (present 0b00100111#8 s)

/-- O_A2_S0_F1_R0: axis 2, sign 0, flip 1, rot 0. -/
def execOA2S0F1R0 (s : State) : Host.Outcome State Fault Refusal := .next (present 0b00101000#8 s)

/-- O_A2_S0_F1_R1: axis 2, sign 0, flip 1, rot 1. -/
def execOA2S0F1R1 (s : State) : Host.Outcome State Fault Refusal := .next (present 0b00101001#8 s)

/-- O_A2_S0_F1_R2: axis 2, sign 0, flip 1, rot 2. -/
def execOA2S0F1R2 (s : State) : Host.Outcome State Fault Refusal := .next (present 0b00101010#8 s)

/-- O_A2_S0_F1_R3: axis 2, sign 0, flip 1, rot 3. -/
def execOA2S0F1R3 (s : State) : Host.Outcome State Fault Refusal := .next (present 0b00101011#8 s)

/-- O_A2_S1_F1_R0: axis 2, sign 1, flip 1, rot 0. -/
def execOA2S1F1R0 (s : State) : Host.Outcome State Fault Refusal := .next (present 0b00101100#8 s)

/-- O_A2_S1_F1_R1: axis 2, sign 1, flip 1, rot 1. -/
def execOA2S1F1R1 (s : State) : Host.Outcome State Fault Refusal := .next (present 0b00101101#8 s)

/-- O_A2_S1_F1_R2: axis 2, sign 1, flip 1, rot 2. -/
def execOA2S1F1R2 (s : State) : Host.Outcome State Fault Refusal := .next (present 0b00101110#8 s)

/-- O_A2_S1_F1_R3: axis 2, sign 1, flip 1, rot 3. -/
def execOA2S1F1R3 (s : State) : Host.Outcome State Fault Refusal := .next (present 0b00101111#8 s)

end Sys2Proof.Machine
end

