-- ==== Sys2Proof/Machine/Reserved.lean ====
section
/-! DEFINITION. The meanings of the three reserved classes: the code is presented like any other, and DEC and ROM report
InvalidCode for it (R63, R64, R81, R138). -/

namespace Sys2Proof.Machine

/-- RSV_AXIS3, `0011fsrr`: DEC drives the raw fields, MB fed with them reports InvalidField (R63, R69, R107). -/
def execRsvAxis3 (flip sign : BitVec 1) (rot : BitVec 2) (s : State) : Host.Outcome State Fault Refusal :=
  .next (present (0b0011#4 ++ flip ++ sign ++ rot) s)

/-- RSV_HI_B6, `01aafsrr`: DEC drives the fields of bits 5:0, MB fed with them builds their matrix (R64, R69). -/
def execRsvHiB6 (axis : BitVec 2) (flip sign : BitVec 1) (rot : BitVec 2) (s : State) : Host.Outcome State Fault Refusal :=
  .next (present (0b01#2 ++ axis ++ flip ++ sign ++ rot) s)

/-- RSV_HI_B7, `1haafsrr`: as RSV_HI_B6 (R64, R69). -/
def execRsvHiB7 (h : BitVec 1) (axis : BitVec 2) (flip sign : BitVec 1) (rot : BitVec 2) (s : State) :
    Host.Outcome State Fault Refusal :=
  .next (present (0b1#1 ++ h ++ axis ++ flip ++ sign ++ rot) s)

end Sys2Proof.Machine
end

