-- ==== Sys2Proof/Machine/Dispatch.lean ====
section
/-! DEFINITION. One arm per instruction. -/

namespace Sys2Proof.Machine

def exec (i : Instr) (s : State) : Host.Outcome State Fault Refusal :=
  match i with
  | .oA0S0F0R0 => Sys2Proof.Machine.execOA0S0F0R0 s
  | .oA0S0F0R1 => Sys2Proof.Machine.execOA0S0F0R1 s
  | .oA0S0F0R2 => Sys2Proof.Machine.execOA0S0F0R2 s
  | .oA0S0F0R3 => Sys2Proof.Machine.execOA0S0F0R3 s
  | .oA0S1F0R0 => Sys2Proof.Machine.execOA0S1F0R0 s
  | .oA0S1F0R1 => Sys2Proof.Machine.execOA0S1F0R1 s
  | .oA0S1F0R2 => Sys2Proof.Machine.execOA0S1F0R2 s
  | .oA0S1F0R3 => Sys2Proof.Machine.execOA0S1F0R3 s
  | .oA0S0F1R0 => Sys2Proof.Machine.execOA0S0F1R0 s
  | .oA0S0F1R1 => Sys2Proof.Machine.execOA0S0F1R1 s
  | .oA0S0F1R2 => Sys2Proof.Machine.execOA0S0F1R2 s
  | .oA0S0F1R3 => Sys2Proof.Machine.execOA0S0F1R3 s
  | .oA0S1F1R0 => Sys2Proof.Machine.execOA0S1F1R0 s
  | .oA0S1F1R1 => Sys2Proof.Machine.execOA0S1F1R1 s
  | .oA0S1F1R2 => Sys2Proof.Machine.execOA0S1F1R2 s
  | .oA0S1F1R3 => Sys2Proof.Machine.execOA0S1F1R3 s
  | .oA1S0F0R0 => Sys2Proof.Machine.execOA1S0F0R0 s
  | .oA1S0F0R1 => Sys2Proof.Machine.execOA1S0F0R1 s
  | .oA1S0F0R2 => Sys2Proof.Machine.execOA1S0F0R2 s
  | .oA1S0F0R3 => Sys2Proof.Machine.execOA1S0F0R3 s
  | .oA1S1F0R0 => Sys2Proof.Machine.execOA1S1F0R0 s
  | .oA1S1F0R1 => Sys2Proof.Machine.execOA1S1F0R1 s
  | .oA1S1F0R2 => Sys2Proof.Machine.execOA1S1F0R2 s
  | .oA1S1F0R3 => Sys2Proof.Machine.execOA1S1F0R3 s
  | .oA1S0F1R0 => Sys2Proof.Machine.execOA1S0F1R0 s
  | .oA1S0F1R1 => Sys2Proof.Machine.execOA1S0F1R1 s
  | .oA1S0F1R2 => Sys2Proof.Machine.execOA1S0F1R2 s
  | .oA1S0F1R3 => Sys2Proof.Machine.execOA1S0F1R3 s
  | .oA1S1F1R0 => Sys2Proof.Machine.execOA1S1F1R0 s
  | .oA1S1F1R1 => Sys2Proof.Machine.execOA1S1F1R1 s
  | .oA1S1F1R2 => Sys2Proof.Machine.execOA1S1F1R2 s
  | .oA1S1F1R3 => Sys2Proof.Machine.execOA1S1F1R3 s
  | .oA2S0F0R0 => Sys2Proof.Machine.execOA2S0F0R0 s
  | .oA2S0F0R1 => Sys2Proof.Machine.execOA2S0F0R1 s
  | .oA2S0F0R2 => Sys2Proof.Machine.execOA2S0F0R2 s
  | .oA2S0F0R3 => Sys2Proof.Machine.execOA2S0F0R3 s
  | .oA2S1F0R0 => Sys2Proof.Machine.execOA2S1F0R0 s
  | .oA2S1F0R1 => Sys2Proof.Machine.execOA2S1F0R1 s
  | .oA2S1F0R2 => Sys2Proof.Machine.execOA2S1F0R2 s
  | .oA2S1F0R3 => Sys2Proof.Machine.execOA2S1F0R3 s
  | .oA2S0F1R0 => Sys2Proof.Machine.execOA2S0F1R0 s
  | .oA2S0F1R1 => Sys2Proof.Machine.execOA2S0F1R1 s
  | .oA2S0F1R2 => Sys2Proof.Machine.execOA2S0F1R2 s
  | .oA2S0F1R3 => Sys2Proof.Machine.execOA2S0F1R3 s
  | .oA2S1F1R0 => Sys2Proof.Machine.execOA2S1F1R0 s
  | .oA2S1F1R1 => Sys2Proof.Machine.execOA2S1F1R1 s
  | .oA2S1F1R2 => Sys2Proof.Machine.execOA2S1F1R2 s
  | .oA2S1F1R3 => Sys2Proof.Machine.execOA2S1F1R3 s
  | .rsvAxis3 flip sign rot => Sys2Proof.Machine.execRsvAxis3 flip sign rot s
  | .rsvHiB6 axis flip sign rot => Sys2Proof.Machine.execRsvHiB6 axis flip sign rot s
  | .rsvHiB7 h axis flip sign rot => Sys2Proof.Machine.execRsvHiB7 h axis flip sign rot s

end Sys2Proof.Machine
end

