-- ==== Sys2Proof/Machine/Step.lean ====
section
/-! DEFINITION. One step: the next transaction of the script, and the instruction of its code byte if it has one. -/

namespace Sys2Proof.Machine

/-- One step is one transaction, evaluated atomically (R69, R185). -/
def step (s : State) : Host.Outcome State Fault Refusal :=
  match fetch s with
  | .error f => .fault f
  | .ok (some c, s') => exec (decodeByte c) s'
  | .ok (none, s') => .next s'

/-- The state whose next transaction presents the code of an instruction to every unit the instance has. -/
def State.withFetchWord (s : State) (nbits w : Nat) : State :=
  placeCode nbits w s

end Sys2Proof.Machine
end

