-- ==== Sys2Proof/Safety.lean ====
section
/-! DEFINITION. What the claims speak of: the matrices and lanes that a reader of the ports sees, what a consumer may take
as a result, and what a safe state is. -/

namespace Sys2Proof.Machine

/-- The integer matrix on the port `mb_m`: M[r][c] is the two's complement value of bits [2(3c+r)+1 : 2(3c+r)] (R27, R30). -/
def mbMat (x : MbOut) : Matrix (Fin 3) (Fin 3) Int :=
  Matrix.of fun r c => (x.m.extractLsb' (2 * (3 * c.val + r.val)) 2).toInt

/-- Lane k of a ROM word: bits [32k+31 : 32k] (R43). -/
def wordLane (w : Word) (k : Nat) : BitVec 32 := w.extractLsb' (32 * k) 32

/-- Lane k of the port `mb_mf`: bits [32k+31 : 32k] (R108). -/
def mfLane (x : MbOut) (k : Nat) : BitVec 32 := x.mf.extractLsb' (32 * k) 32

/-- The lane of H[r][c] in a ROM word (R43). -/
def laneOf : WordOrder → Fin 4 → Fin 4 → Nat
  | .colMajor, r, c => 4 * c.val + r.val
  | .rowMajor, r, c => 4 * r.val + c.val

/-- The integer a lane stands for, for the three patterns of R31; none for any other pattern. -/
def laneInt (x : BitVec 32) : Option Int :=
  if x = 0x3F800000#32 then some 1
  else if x = 0xBF800000#32 then some (-1)
  else if x = 0x00000000#32 then some 0
  else none

/-- The upper-left 3×3 block of the matrix in a ROM word, as integers; a lane with no value of R31 reads as 2. -/
def wordMat (order : WordOrder) (w : Word) : Matrix (Fin 3) (Fin 3) Int :=
  Matrix.of fun r c => (laneInt (wordLane w (laneOf order r.castSucc c.castSucc))).getD 2

/-- The parity of a permutation of 0, 1, 2 (R10). -/
def parity (p0 p1 p2 : Int) : Int :=
  if (p0, p1, p2) = (0, 1, 2) ∨ (p0, p1, p2) = (1, 2, 0) ∨ (p0, p1, p2) = (2, 0, 1) then 1 else -1

/-- What a consumer may take from DEC: no data while `dec_err` is not OK (R82, U8). -/
def decResult (s : State) : Except Err Orientation :=
  if (decPort s).err = .ok then .ok (decPort s).fields else .error (decPort s).err

/-- What a consumer may take from ENC, if it is present: no code while `enc_err` is not OK (R84, U8). -/
def encResult (s : State) : Option (Except Err Byte) :=
  (encPort s).map fun e => if e.err = .ok then .ok e.code else .error e.err

/-- What a consumer may take from MB: no data while `mb_err` is not OK (R107, U8). -/
def mbResult (s : State) : Except Err (Matrix (Fin 3) (Fin 3) Int) :=
  if (mbPort s).err = .ok then .ok (mbMat (mbPort s)) else .error (mbPort s).err

/-- What a consumer may take from the ROM: nothing while `rom_valid` is 0, no word while `rom_err` is not OK (R183, U8). -/
def romResult (s : State) : Option (Except Err Word) :=
  if (romPort s).valid then
    some (if (romPort s).err = .ok then .ok (romPort s).word else .error (romPort s).err)
  else none

/-- The ROM holds exactly the constants of R131 to R133 (R33, R50). -/
def State.RomIntact (s : State) : Prop := s.rom = []

/-- The output register holds its reset values or one completed lookup (R34, R140). -/
def State.RegisterShowsRead (s : State) : Prop :=
  s.q = .reset ∨ ∃ c : Byte, s.q.word = (lookup s.params s.rom c).1 ∧ s.q.err = (lookup s.params s.rom c).2 ∧ s.q.valid = true

/-- Every transaction to come drives only ports of this instance, and the power stays on. -/
def State.ScriptSafe (s : State) : Prop := ∀ t ∈ s.script, t.wellFormed s.params = true ∧ t ≠ .powerLoss

/-- A safe state. It holds at reset and every step keeps it. -/
structure State.Inv (s : State) : Prop where
  romIntact : s.RomIntact
  registerShowsRead : s.RegisterShowsRead
  scriptSafe : s.ScriptSafe

end Sys2Proof.Machine

namespace Sys2Proof

/-- A transaction that gives the output register no enabled edge, no reset edge and no power loss (R184). -/
def Txn.quiet : Txn → Bool
  | .code d _ =>
    match d.clk with
    | .hold => true
    | .rise rst en => !rst && !en
  | .enc _ => true
  | .mb _ => true
  | .powerLoss => false

end Sys2Proof
end

