-- ==== Sys2Proof/Certificates/Slice0/Obligations.lean ====
section
/-! DEFINITION. The statements for the provers, and the spec's formulas they compare the machine with, written on integers
and independent of the machine's own definitions. Scripts, transactions and drives are the model's form of R69's
transaction lines (log entries 2 and 3); a statement that rests on another choice of the model names its log entry. -/

namespace Sys2Proof.Spec

open Sys2Proof.Machine

/-- The four fields of a code by division: code = 64·(bits 7:6) + 16·axis + 8·flip + 4·sign + rot (R60, R61). -/
def fields (c : Byte) : Orientation :=
  { rot := BitVec.ofNat 2 (c.toNat % 4), sign := BitVec.ofNat 1 (c.toNat / 4 % 2),
    flip := BitVec.ofNat 1 (c.toNat / 8 % 2), axis := BitVec.ofNat 2 (c.toNat / 16 % 4) }

/-- The code is valid: it is at most 0x2F (R62). -/
def Valid (c : Byte) : Prop := c.toNat ≤ 0x2F

/-- +1 for 0, -1 for 1: sign0 of a sign bit (R102), flip_sign of a flip bit (R104). -/
def bitSign (b : BitVec 1) : Int := if b.toNat = 0 then 1 else -1

/-- ROT_SIGN = [+1, +1, -1, -1, +1] (R104). -/
def rotSign (n : Nat) : Int := if n = 2 ∨ n = 3 then -1 else 1

/-- The tangent axis t1 (R103). -/
def t1 (o : Orientation) : Int := ((o.axis.toNat : Int) + bitSign o.sign) % 3

/-- The tangent axis t2 (R103). -/
def t2 (o : Orientation) : Int := ((o.axis.toNat : Int) - bitSign o.sign) % 3

/-- An odd rot swaps the tangent axes, under QUARTER_TURN only (R105). -/
abbrev Swaps (v : AlgVariant) (o : Orientation) : Prop := v = .quarterTurn ∧ o.rot.toNat % 2 = 1

/-- axis_c, the row where canonical basis vector c lands (R102, R103, R105). -/
def axis (v : AlgVariant) (o : Orientation) : Fin 3 → Int
  | 0 => o.axis.toNat
  | 1 => if Swaps v o then t2 o else t1 o
  | 2 => if Swaps v o then t1 o else t2 o

/-- sign_c (R102, R104). -/
def sign (o : Orientation) : Fin 3 → Int
  | 0 => bitSign o.sign
  | 1 => rotSign o.rot.toNat
  | 2 => rotSign (o.rot.toNat + 1) * bitSign o.flip

/-- M[r][c] (R106). -/
def elem (v : AlgVariant) (o : Orientation) (r c : Fin 3) : Int :=
  if (r.val : Int) = axis v o c then sign o c else 0

/-- H[r][c] of the homogeneous form (R115). -/
def elem4 (v : AlgVariant) (o : Orientation) (r c : Fin 4) : Int :=
  if h : r.val < 3 ∧ c.val < 3 then elem v o ⟨r.val, h.1⟩ ⟨c.val, h.2⟩ else if r.val = 3 ∧ c.val = 3 then 1 else 0

/-- The binary32 pattern of an element (R31). -/
def f32 (x : Int) : BitVec 32 := if x = 1 then 0x3F800000#32 else if x = -1 then 0xBF800000#32 else 0x00000000#32

/-- What MB drives for four fields (R100, R106 to R109). -/
def MbShows (v : AlgVariant) (o : Orientation) (x : MbOut) : Prop :=
  (o.axis.toNat = 3 → x = { pairAxis := 0, pairNeg := 0, m := 0, mf := 0, err := .invalidField }) ∧
  (o.axis.toNat ≠ 3 →
    x.err = .ok ∧
    (∀ c : Fin 3, ((x.pairAxis.extractLsb' (2 * c.val) 2).toNat : Int) = axis v o c) ∧
    (∀ c c' : Fin 3, x.pairAxis.extractLsb' (2 * c.val) 2 = x.pairAxis.extractLsb' (2 * c'.val) 2 → c = c') ∧
    (∀ c : Fin 3, x.pairNeg.getLsbD c.val = true ↔ sign o c = -1) ∧
    (∀ r c : Fin 3, x.m.extractLsb' (2 * (3 * c.val + r.val)) 2 = BitVec.ofInt 2 (elem v o r c)) ∧
    ∀ r c : Fin 3, mfLane x (3 * c.val + r.val) = f32 (elem v o r c))

/-- The word that `Word(Homog(Mat(decode(c))))` is, lane by lane (R131, R134). -/
def WordShows (p : Params) (c : Byte) (w : Word) : Prop :=
  ∀ r k : Fin 4, wordLane w (laneOf p.order r k) = f32 (elem4 p.alg (fields c) r k)

/-- The code has an entry in the ROM of the given instance (R135 to R137). -/
def HasEntry (p : Params) (c : Byte) : Prop :=
  p.entries = .e48 ∨ (p.entries = .e24 ∧ p.rom24 = .compressed ∧ c.toNat / 8 % 2 = 0) ∨
    (p.entries = .e24 ∧ p.rom24 = .prefixed ∧ c.toNat < 24)

/-- What `Lookup(c)` gives, InvalidCode before NotInTable (R135 to R138). -/
def LookupShows (p : Params) (c : Byte) (w : Word) (e : Err) : Prop :=
  (¬ Valid c → w = 0 ∧ e = .invalidCode) ∧
  (Valid c → ¬ HasEntry p c → w = 0 ∧ e = .notInTable) ∧
  (Valid c → HasEntry p c → WordShows p c w ∧ e = .ok)

/-- A signed-permutation matrix: one nonzero entry, +1 or -1, in every row and every column. -/
def SignedPerm (M : Matrix (Fin 3) (Fin 3) Int) : Prop :=
  (∀ r, ∃! c, M r c ≠ 0) ∧ (∀ c, ∃! r, M r c ≠ 0) ∧ ∀ r c, M r c = 0 ∨ M r c = 1 ∨ M r c = -1

/-- The matrix MB drives for four fields. -/
def mat (v : AlgVariant) (o : Orientation) : Matrix (Fin 3) (Fin 3) Int := mbMat (mbOut v o)

/-- The matrices in the words of an instance's ROM, in index order. -/
def romMats (p : Params) : List (Matrix (Fin 3) (Fin 3) Int) :=
  (List.range p.entries.count).map fun i => wordMat p.order (romContents p i)

/-- The number of different matrices in a ROM, and the number of entries with determinant -1. -/
def romCensus (p : Params) : Nat × Nat := ((romMats p).dedup.length, ((romMats p).filter fun M => M.det = -1).length)

/-- The quarter turn about canonical x that maps y to z (R116). -/
def quarterTurnX : Matrix (Fin 3) (Fin 3) Int := !![1, 0, 0; 0, 0, -1; 0, 1, 0]

/-- The reflection of canonical z (R116). -/
def flipZ : Matrix (Fin 3) (Fin 3) Int := !![1, 0, 0; 0, 1, 0; 0, 0, -1]

/-- One row of the opcode table: the instruction, axis, flip, sign and rot, `matrix_rows` read row by row, `det`, and
`idx24` (R68). -/
abbrev Row := Instr × (Nat × Nat × Nat × Nat) × List Int × Int × Option Nat

/-- The opcode table's rows with axis = 0. -/
def rowsAxis0 : List Row :=
  [(.oA0S0F0R0, (0, 0, 0, 0), [1, 0, 0, 0, 1, 0, 0, 0, 1], 1, some 0),
   (.oA0S0F0R1, (0, 0, 0, 1), [1, 0, 0, 0, 0, -1, 0, 1, 0], 1, some 1),
   (.oA0S0F0R2, (0, 0, 0, 2), [1, 0, 0, 0, -1, 0, 0, 0, -1], 1, some 2),
   (.oA0S0F0R3, (0, 0, 0, 3), [1, 0, 0, 0, 0, 1, 0, -1, 0], 1, some 3),
   (.oA0S1F0R0, (0, 0, 1, 0), [-1, 0, 0, 0, 0, 1, 0, 1, 0], 1, some 4),
   (.oA0S1F0R1, (0, 0, 1, 1), [-1, 0, 0, 0, 1, 0, 0, 0, -1], 1, some 5),
   (.oA0S1F0R2, (0, 0, 1, 2), [-1, 0, 0, 0, 0, -1, 0, -1, 0], 1, some 6),
   (.oA0S1F0R3, (0, 0, 1, 3), [-1, 0, 0, 0, -1, 0, 0, 0, 1], 1, some 7),
   (.oA0S0F1R0, (0, 1, 0, 0), [1, 0, 0, 0, 1, 0, 0, 0, -1], -1, none),
   (.oA0S0F1R1, (0, 1, 0, 1), [1, 0, 0, 0, 0, 1, 0, 1, 0], -1, none),
   (.oA0S0F1R2, (0, 1, 0, 2), [1, 0, 0, 0, -1, 0, 0, 0, 1], -1, none),
   (.oA0S0F1R3, (0, 1, 0, 3), [1, 0, 0, 0, 0, -1, 0, -1, 0], -1, none),
   (.oA0S1F1R0, (0, 1, 1, 0), [-1, 0, 0, 0, 0, -1, 0, 1, 0], -1, none),
   (.oA0S1F1R1, (0, 1, 1, 1), [-1, 0, 0, 0, 1, 0, 0, 0, 1], -1, none),
   (.oA0S1F1R2, (0, 1, 1, 2), [-1, 0, 0, 0, 0, 1, 0, -1, 0], -1, none),
   (.oA0S1F1R3, (0, 1, 1, 3), [-1, 0, 0, 0, -1, 0, 0, 0, -1], -1, none)]

/-- The opcode table's rows with axis = 1. -/
def rowsAxis1 : List Row :=
  [(.oA1S0F0R0, (1, 0, 0, 0), [0, 0, 1, 1, 0, 0, 0, 1, 0], 1, some 8),
   (.oA1S0F0R1, (1, 0, 0, 1), [0, 1, 0, 1, 0, 0, 0, 0, -1], 1, some 9),
   (.oA1S0F0R2, (1, 0, 0, 2), [0, 0, -1, 1, 0, 0, 0, -1, 0], 1, some 10),
   (.oA1S0F0R3, (1, 0, 0, 3), [0, -1, 0, 1, 0, 0, 0, 0, 1], 1, some 11),
   (.oA1S1F0R0, (1, 0, 1, 0), [0, 1, 0, -1, 0, 0, 0, 0, 1], 1, some 12),
   (.oA1S1F0R1, (1, 0, 1, 1), [0, 0, -1, -1, 0, 0, 0, 1, 0], 1, some 13),
   (.oA1S1F0R2, (1, 0, 1, 2), [0, -1, 0, -1, 0, 0, 0, 0, -1], 1, some 14),
   (.oA1S1F0R3, (1, 0, 1, 3), [0, 0, 1, -1, 0, 0, 0, -1, 0], 1, some 15),
   (.oA1S0F1R0, (1, 1, 0, 0), [0, 0, -1, 1, 0, 0, 0, 1, 0], -1, none),
   (.oA1S0F1R1, (1, 1, 0, 1), [0, 1, 0, 1, 0, 0, 0, 0, 1], -1, none),
   (.oA1S0F1R2, (1, 1, 0, 2), [0, 0, 1, 1, 0, 0, 0, -1, 0], -1, none),
   (.oA1S0F1R3, (1, 1, 0, 3), [0, -1, 0, 1, 0, 0, 0, 0, -1], -1, none),
   (.oA1S1F1R0, (1, 1, 1, 0), [0, 1, 0, -1, 0, 0, 0, 0, -1], -1, none),
   (.oA1S1F1R1, (1, 1, 1, 1), [0, 0, 1, -1, 0, 0, 0, 1, 0], -1, none),
   (.oA1S1F1R2, (1, 1, 1, 2), [0, -1, 0, -1, 0, 0, 0, 0, 1], -1, none),
   (.oA1S1F1R3, (1, 1, 1, 3), [0, 0, -1, -1, 0, 0, 0, -1, 0], -1, none)]

/-- The opcode table's rows with axis = 2. -/
def rowsAxis2 : List Row :=
  [(.oA2S0F0R0, (2, 0, 0, 0), [0, 1, 0, 0, 0, 1, 1, 0, 0], 1, some 16),
   (.oA2S0F0R1, (2, 0, 0, 1), [0, 0, -1, 0, 1, 0, 1, 0, 0], 1, some 17),
   (.oA2S0F0R2, (2, 0, 0, 2), [0, -1, 0, 0, 0, -1, 1, 0, 0], 1, some 18),
   (.oA2S0F0R3, (2, 0, 0, 3), [0, 0, 1, 0, -1, 0, 1, 0, 0], 1, some 19),
   (.oA2S1F0R0, (2, 0, 1, 0), [0, 0, 1, 0, 1, 0, -1, 0, 0], 1, some 20),
   (.oA2S1F0R1, (2, 0, 1, 1), [0, 1, 0, 0, 0, -1, -1, 0, 0], 1, some 21),
   (.oA2S1F0R2, (2, 0, 1, 2), [0, 0, -1, 0, -1, 0, -1, 0, 0], 1, some 22),
   (.oA2S1F0R3, (2, 0, 1, 3), [0, -1, 0, 0, 0, 1, -1, 0, 0], 1, some 23),
   (.oA2S0F1R0, (2, 1, 0, 0), [0, 1, 0, 0, 0, -1, 1, 0, 0], -1, none),
   (.oA2S0F1R1, (2, 1, 0, 1), [0, 0, 1, 0, 1, 0, 1, 0, 0], -1, none),
   (.oA2S0F1R2, (2, 1, 0, 2), [0, -1, 0, 0, 0, 1, 1, 0, 0], -1, none),
   (.oA2S0F1R3, (2, 1, 0, 3), [0, 0, -1, 0, -1, 0, 1, 0, 0], -1, none),
   (.oA2S1F1R0, (2, 1, 1, 0), [0, 0, -1, 0, 1, 0, -1, 0, 0], -1, none),
   (.oA2S1F1R1, (2, 1, 1, 1), [0, 1, 0, 0, 0, 1, -1, 0, 0], -1, none),
   (.oA2S1F1R2, (2, 1, 1, 2), [0, 0, 1, 0, -1, 0, -1, 0, 0], -1, none),
   (.oA2S1F1R3, (2, 1, 1, 3), [0, -1, 0, 0, 0, -1, -1, 0, 0], -1, none)]

/-- What a row of the opcode table says of its instruction, at the default algebra (R5, R68). -/
def RowHolds (row : Row) (s t : State) : Prop :=
  (decPort t).err = .ok ∧
  ((decPort t).fields.axis.toNat, (decPort t).fields.flip.toNat, (decPort t).fields.sign.toNat, (decPort t).fields.rot.toNat)
    = row.2.1 ∧
  (∀ r c : Fin 3, row.2.2.1[3 * r.val + c.val]? = some (mbMat (mbPort t) r c)) ∧
  (mbMat (mbPort t)).det = row.2.2.2.1 ∧
  (s.params.entries = .e24 → s.params.rom24 = .compressed →
    ((romPort t).err = .ok ↔ row.2.2.2.2.isSome = true) ∧
    ∀ i, row.2.2.2.2 = some i → (romPort t).word = romContents s.params i)

end Sys2Proof.Spec

open Sys2Proof Sys2Proof.Machine

/-- Code bytes written out from the spec's encodings decode to their rows (R60, R63, R64, R68).
The refusal of an empty list is the model's choice (log entry 16). -/
def Obligations.CodeWordsDecodeToTheirRows : Prop :=
  decode [0b00000000#8] = .ok (.oA0S0F0R0, []) ∧ decode [0b00001011#8] = .ok (.oA0S0F1R3, []) ∧
  decode [0b00010000#8] = .ok (.oA1S0F0R0, []) ∧ decode [0b00011101#8] = .ok (.oA1S1F1R1, []) ∧
  decode [0b00100101#8] = .ok (.oA2S1F0R1, []) ∧ decode [0b00101111#8] = .ok (.oA2S1F1R3, []) ∧
  decode [0b00111010#8] = .ok (.rsvAxis3 1 0 2, []) ∧ decode [0b01100101#8] = .ok (.rsvHiB6 2 0 1 1, []) ∧
  decode [0b11010110#8] = .ok (.rsvHiB7 1 1 0 1 2, []) ∧ decode [] = .error .noByte

/-- Decode and encode agree for every instruction and every byte (R60, R65, R68). -/
def Obligations.DecodeOfEncodeIsIdentity : Prop :=
  (∀ (i : Instr) (rest : List Byte), decode (encode i ++ rest) = .ok (i, rest)) ∧
  ∀ (b : Byte) (rest : List Byte), ∃ i, decode (b :: rest) = .ok (i, rest) ∧ encode i = [b]

/-- Every byte is the code of exactly one row, and the reserved rows are exactly the invalid bytes (R63, R64, R65, R68). -/
def Obligations.EveryByteHasExactlyOneRow : Prop :=
  ∀ b : Byte, (∃! i, encode i = [b]) ∧
    ((∃ f g r, decodeByte b = .rsvAxis3 f g r) ↔ 0x30 ≤ b.toNat ∧ b.toNat ≤ 0x3F) ∧
    ((∃ a f g r, decodeByte b = .rsvHiB6 a f g r) ↔ 0x40 ≤ b.toNat ∧ b.toNat ≤ 0x7F) ∧
    ((∃ h a f g r, decodeByte b = .rsvHiB7 h a f g r) ↔ 0x80 ≤ b.toNat)

/-- The value of a code with bits 7:6 = 0, and what the codes 0 to 23 are (R60, R61, R133).
The last sentence of R61 is not followed (log entry 14). -/
def Obligations.CodeValueOfFields : Prop :=
  ∀ c : Byte,
    (c.extractLsb' 6 2 = 0#2 →
      c.toNat = 16 * (fieldsOf c).axis.toNat + 8 * (fieldsOf c).flip.toNat + 4 * (fieldsOf c).sign.toNat + (fieldsOf c).rot.toNat) ∧
    (valid c = true ↔ c.toNat ≤ 47) ∧
    (c.toNat ≤ 23 ↔ c.extractLsb' 6 2 = 0#2 ∧ ((fieldsOf c).axis = 0#2 ∨ (fieldsOf c).axis = 1#2 ∧ (fieldsOf c).flip = 0#1)) ∧
    ∀ o : Orientation, (packFields o).toNat = 16 * o.axis.toNat + 8 * o.flip.toNat + 4 * o.sign.toNat + o.rot.toNat

/-- The valid code predicate, and the bijection of valid codes with valid orientations (R62). -/
def Obligations.ValidCodesAreValidOrientations : Prop :=
  (∀ c : Byte, (valid c = true ↔ c.extractLsb' 6 2 = 0b00#2 ∧ c.extractLsb' 4 2 ≠ 0b11#2) ∧
      (valid c = true ↔ c.toNat ≤ 0x2F) ∧ (valid c = true → (fieldsOf c).axis ≠ 3#2)) ∧
    ∀ o : Orientation, o.axis ≠ 3#2 → ∃! c : Byte, valid c = true ∧ fieldsOf c = o

/-- The 24-entry compressed index and its inverse (R66). -/
def Obligations.CompressedIndexFormat : Prop :=
  (∀ c : Byte, valid c = true → (fieldsOf c).flip = 0#1 →
      (idx24 c).toNat = 8 * (fieldsOf c).axis.toNat + 4 * (fieldsOf c).sign.toNat + (fieldsOf c).rot.toNat ∧
      (idx24 c).toNat < 24 ∧ code24 (idx24 c) = c) ∧
    ∀ i : BitVec 5, i.toNat < 24 → valid (code24 i) = true ∧ (fieldsOf (code24 i)).flip = 0#1 ∧ idx24 (code24 i) = i ∧
      ∃! o : Orientation, o.axis ≠ 3#2 ∧ o.flip = 0#1 ∧ idx24 (packFields o) = i

/-- The 2-bit patterns of the four errors, and which unit raises which (R32). -/
def Obligations.ErrorPatterns : Prop :=
  errCode .ok = 0b00#2 ∧ errCode .invalidField = 0b01#2 ∧ errCode .invalidCode = 0b10#2 ∧ errCode .notInTable = 0b11#2 ∧
    (∀ o : Orientation, (encOut o).err = if o.axis = 3#2 then .invalidField else .ok) ∧
    (∀ (v : AlgVariant) (o : Orientation), (mbOut v o).err = if o.axis = 3#2 then .invalidField else .ok) ∧
    (∀ c : Byte, (decOut c).err = if c.extractLsb' 4 2 = 3#2 ∨ c.extractLsb' 6 2 ≠ 0#2 then .invalidCode else .ok) ∧
    ∀ (p : Params) (m : Rom) (c : Byte),
      ((lookup p m c).2 = .invalidCode ↔ c.extractLsb' 4 2 = 3#2 ∨ c.extractLsb' 6 2 ≠ 0#2) ∧
      ((lookup p m c).2 = .notInTable ↔ valid c = true ∧ ¬ Spec.HasEntry p c) ∧
      ((lookup p m c).2 = .notInTable → p.entries = .e24) ∧ (lookup p m c).2 ≠ .invalidField

/-- A step runs the instruction of the transaction's code byte (R67, R69).
That a step takes a transaction from a script is the model's choice (log entry 2). -/
def Obligations.StepRunsTheDecodedInstruction : Prop :=
  ∀ (s : State) (d : Drive) (i : Instr) (c : Byte) (rest : List Txn),
    encode i = [c] → s.script = .code d c :: rest → (Txn.code d c).wellFormed s.params = true →
      step s = exec i { s with script := rest, drive := d }

/-- A code placed by withFetchWord is the next instruction, on every unit the instance has (R67, R69).
What withFetchWord places is the model's choice (log entry 2). -/
def Obligations.PlacedCodeIsTheNextInstruction : Prop :=
  ∀ (s : State) (i : Instr) (c : Byte), encode i = [c] →
    decodeTableWord 8 c.toNat = some i ∧
    step (s.withFetchWord 8 c.toNat) =
      exec i { s with drive := { toDec := true, toEnc := s.params.hasEnc, toMb := true, toRom := true,
                                 clk := if s.params.outReg then .rise false true else .hold } }

/-- When a step idles and when it stops (R26, R28, R36).
The idle step and the fault are the model's choices (log entries 5 and 9). -/
def Obligations.StepsWithoutAnInstruction : Prop :=
  ∀ s : State, (s.script = [] → step s = .next s) ∧ (∀ r, step s ≠ .refused r) ∧
    (step s = .fault .portAbsent ↔
      (s.params.hasEnc = false ∧ ((∃ o rest, s.script = .enc o :: rest) ∨
        ∃ d c rest, s.script = .code d c :: rest ∧ d.toEnc = true)) ∨
      (s.params.outReg = false ∧ ∃ d c rest rst en, s.script = .code d c :: rest ∧ d.clk = .rise rst en))

/-- The script line DEC drives DEC and nothing else (R67, R69). -/
def Obligations.ScriptLineDecSetsOnlyDec : Prop :=
  ∀ (s : State) (c : Byte) (rest : List Txn), s.script = .dec c :: rest →
    ∃ t, step s = .next t ∧ decPort t = decOut c ∧ encPort t = encPort s ∧ mbPort t = mbPort s ∧ romPort t = romPort s ∧
      t.script = rest ∧ t.q = s.q ∧ t.rom = s.rom

/-- Every instruction completes from every state, and what it leaves unchanged (R24, R33, R46, R140, R161).
The drive, the script and the draw count are the model's own fields (log entries 2, 3 and 8). -/
def Obligations.EveryInstructionCompletesWithItsFrame : Prop :=
  ∀ (i : Instr) (s : State), ∃ t, exec i s = .next t ∧
    t.params = s.params ∧ t.rom = s.rom ∧ (∀ k, romRead t.params t.rom k = romRead s.params s.rom k) ∧
    t.drive = s.drive ∧ t.script = s.script ∧ t.draws = s.draws ∧
    (s.drive.toDec = false → t.ports.decCode = s.ports.decCode) ∧
    (s.drive.toEnc = false ∨ s.params.hasEnc = false → t.ports.enc = s.ports.enc) ∧
    (s.drive.toMb = false → t.ports.mb = s.ports.mb) ∧
    (s.drive.toRom = false → t.ports.romCode = s.ports.romCode) ∧
    (s.params.outReg = false ∨ s.drive.clk = .hold ∨ s.drive.clk = .rise false false → t.q = s.q)

/-- An instruction changes the outputs of no unit it does not drive, whatever error it raises (R20, R67, R161, R163, R171). -/
def Obligations.UnitsNotDrivenKeepTheirOutputs : Prop :=
  ∀ (i : Instr) (s : State), ∃ t, exec i s = .next t ∧
    (s.drive.toDec = false → decPort t = decPort s) ∧ (s.drive.toEnc = false → encPort t = encPort s) ∧
    (s.drive.toMb = false → mbPort t = mbPort s) ∧
    (s.drive.toRom = false → s.drive.clk = .hold → romPort t = romPort s) ∧
    (s.params.outReg = true → s.drive.clk = .hold → romPort t = romPort s)

/-- No earlier code affects a later one: errors are not sticky and reads have no side effect (R20, R47, R161, R180). -/
def Obligations.OutputsDependOnlyOnTheCurrentCode : Prop :=
  ∀ (i j : Instr) (s : State), ∃ t u v, exec i s = .next t ∧ exec j t = .next u ∧ exec j s = .next v ∧
    decPort u = decPort v ∧ encPort u = encPort v ∧ mbPort u = mbPort v ∧ romPort u = romPort v ∧ u.q = v.q

/-- DECODE: every instruction, presented to DEC, completes with its fields and its error (R80, R81, R82). -/
def Obligations.DecodeDrivesFieldsAndError : Prop :=
  ∀ (i : Instr) (c : Byte) (s : State), encode i = [c] → s.drive.toDec = true →
    ∃ t, exec i s = .next t ∧
      (decPort t).fields.rot = c.extractLsb' 0 2 ∧ (decPort t).fields.sign = c.extractLsb' 2 1 ∧
      (decPort t).fields.flip = c.extractLsb' 3 1 ∧ (decPort t).fields.axis = c.extractLsb' 4 2 ∧
      ((decPort t).err = .ok ↔ c.extractLsb' 6 2 = 0#2 ∧ c.extractLsb' 4 2 ≠ 3#2) ∧
      ((decPort t).err = .invalidCode ↔ ¬ (c.extractLsb' 6 2 = 0#2 ∧ c.extractLsb' 4 2 ≠ 3#2))

/-- ENCODE: ENC packs its four fields, reports InvalidField for axis = 3 only, and changes nothing else (R83, R84). -/
def Obligations.EncodePacksFields : Prop :=
  ∀ (s : State) (o : Orientation) (rest : List Txn), s.params.hasEnc = true → s.script = .enc o :: rest →
    ∃ t e, step s = .next t ∧ encPort t = some e ∧
      e.code.toNat = 16 * o.axis.toNat + 8 * o.flip.toNat + 4 * o.sign.toNat + o.rot.toNat ∧
      e.code.extractLsb' 6 2 = 0#2 ∧
      (e.err = .invalidField ↔ o.axis = 3#2) ∧ (e.err = .ok ↔ o.axis ≠ 3#2) ∧
      (o.axis = 3#2 → 0x30 ≤ e.code.toNat ∧ e.code.toNat ≤ 0x3F ∧ (decOut e.code).err = .invalidCode ∧
        (lookup s.params s.rom e.code).2 = .invalidCode) ∧
      decPort t = decPort s ∧ mbPort t = mbPort s ∧ romPort t = romPort s ∧ t.q = s.q ∧ t.rom = s.rom ∧ t.script = rest

/-- Without HAS_ENC there is no encoder port (R4, R26). -/
def Obligations.EncoderAbsentWithoutHasEnc : Prop :=
  ∀ (i : Instr) (s : State), s.params.hasEnc = false →
    encPort s = none ∧ ∃ t, exec i s = .next t ∧ encPort t = none

/-- Decoding an encoded valid orientation gives it back, with both errors OK (R85). -/
def Obligations.OrientationRoundTrip : Prop :=
  ∀ o : Orientation, o.axis ≠ 3#2 → (encOut o).err = .ok ∧ decOut (encOut o).code = { fields := o, err := .ok }

/-- Encoding a decoded code: the code itself if valid, its low six bits if not (R86). -/
def Obligations.CodeRoundTrip : Prop :=
  ∀ (i : Instr) (c : Byte) (s : State), encode i = [c] →
    s.params.hasEnc = true → s.drive.toDec = true → s.drive.toEnc = true →
    ∃ t e, exec i s = .next t ∧ encPort t = some e ∧ e.code = (c.extractLsb' 0 6).zeroExtend 8 ∧
      (Spec.Valid c → e.code = c ∧ e.err = .ok ∧ (decPort t).err = .ok) ∧
      (c.extractLsb' 4 2 = 3#2 → e.err = .invalidField ∧ ¬ Spec.Valid e.code) ∧
      (¬ Spec.Valid c → c.extractLsb' 4 2 ≠ 3#2 → e.err = .ok ∧ Spec.Valid e.code ∧ e.code ≠ c ∧ (decPort t).err = .invalidCode)

/-- BUILD_MATRIX: MB driven with any four fields (R100, R102, R104, R106, R107, R108, R109). -/
def Obligations.MatrixBuilderOutputs : Prop :=
  ∀ (s : State) (o : Orientation) (rest : List Txn), s.script = .mb o :: rest →
    ∃ t, step s = .next t ∧ Spec.MbShows s.params.alg o (mbPort t) ∧
      decPort t = decPort s ∧ encPort t = encPort s ∧ romPort t = romPort s ∧ t.q = s.q ∧ t.rom = s.rom ∧ t.script = rest

/-- CHAIN: every instruction, presented to DEC with DEC feeding MB, completes with the matrix of its low six bits (R69, R80, R82, R100, R107). -/
def Obligations.ChainBuildsTheMatrixOfTheCode : Prop :=
  ∀ (i : Instr) (c : Byte) (s : State), encode i = [c] → s.drive.toDec = true → s.drive.toMb = true →
    ∃ t, exec i s = .next t ∧ Spec.MbShows s.params.alg (Spec.fields c) (mbPort t)

/-- Every row of the opcode table: fields, matrix, determinant and compressed index (R5, R66, R68, R100, R135). -/
def Obligations.OpcodeTableRowsHold : Prop :=
  ∀ (s : State), s.params.alg = .quarterTurn → s.params.outReg = false → s.RomIntact →
    s.drive.toDec = true → s.drive.toMb = true → s.drive.toRom = true →
    ∀ row ∈ Spec.rowsAxis0 ++ Spec.rowsAxis1 ++ Spec.rowsAxis2, ∃ t, exec row.1 s = .next t ∧ Spec.RowHolds row s t

/-- axis_add is the sum modulo n, always in [0, n) (R101). -/
def Obligations.AxisAddIsEuclidean : Prop :=
  (∀ a d n : Int, 0 < n → 0 ≤ axisAdd a d n ∧ axisAdd a d n < n ∧ ∃ k : Int, a + d = axisAdd a d n + n * k) ∧
    axisAdd (-1) 0 3 = 2

/-- Every matrix MB drives for a valid input is monomial and orthogonal, under either variant (R110). -/
def Obligations.MatrixIsMonomialAndOrthogonal : Prop :=
  ∀ (v : AlgVariant) (o : Orientation), o.axis ≠ 3#2 →
    Spec.SignedPerm (Spec.mat v o) ∧ Spec.mat v o * (Spec.mat v o).transpose = 1

/-- The determinant formula, and its value under each variant (R111). -/
def Obligations.DeterminantFormula : Prop :=
  ∀ o : Orientation, o.axis ≠ 3#2 →
    (∀ v : AlgVariant, (Spec.mat v o).det =
      Spec.sign o 0 * Spec.sign o 1 * Spec.sign o 2 * parity (Spec.axis v o 0) (Spec.axis v o 1) (Spec.axis v o 2)) ∧
    (Spec.mat .quarterTurn o).det = (if o.flip = 0#1 then 1 else -1) ∧
    (Spec.mat .literal o).det = (if o.rot.toNat % 2 = o.flip.toNat then 1 else -1)

/-- Under QUARTER_TURN the 48 orientations are the 48 signed permutations; under LITERAL only 24 arise (R112). -/
def Obligations.MatricesAreTheWholeCubeGroup : Prop :=
  (∀ M, Spec.SignedPerm M → ∃! o : Orientation, o.axis ≠ 3#2 ∧ Spec.mat .quarterTurn o = M) ∧
    (∀ o : Orientation, o.axis ≠ 3#2 → Spec.SignedPerm (Spec.mat .quarterTurn o) ∧
      (Spec.mat .quarterTurn o).det = if o.flip = 0#1 then 1 else -1) ∧
    (∀ o o' : Orientation, o.axis ≠ 3#2 → o'.axis ≠ 3#2 → o.flip = 0#1 → o'.flip = 0#1 →
      Spec.mat .literal o = Spec.mat .literal o' → o = o') ∧
    ((List.range 24).filter fun i => (Spec.mat .literal (fieldsOf (code24 (BitVec.ofNat 5 i)))).det = -1).length = 12 ∧
    ∀ o : Orientation, o.axis ≠ 3#2 → Spec.mat .literal { o with flip := 1#1 } =
      Spec.mat .literal { o with flip := 0#1, rot := o.rot ^^^ 1#2 }

/-- The orientation of code 0x00 gives the identity matrix under either variant (R113). -/
def Obligations.IdentityOrientation : Prop :=
  encode .oA0S0F0R0 = [0x00#8] ∧ ∀ s : State, s.drive.toDec = true → s.drive.toMb = true →
    ∃ t, exec .oA0S0F0R0 s = .next t ∧ mbMat (mbPort t) = 1 ∧ (mbPort t).err = .ok ∧ (decPort t).fields = ⟨0, 0, 0, 0⟩

/-- Column 0 of the matrix is the signed normal axis, under either variant (R114). -/
def Obligations.NormalColumn : Prop :=
  ∀ (v : AlgVariant) (o : Orientation) (a : Fin 3), o.axis.toNat = a.val →
    (Spec.mat v o).mulVec (Pi.single 0 1) = (if o.sign = 0#1 then (1 : Int) else -1) • Pi.single a 1

/-- rot applies quarter turns about canonical x after the base frame, and flip reflects canonical z (R116). -/
def Obligations.CompositionLaw : Prop :=
  ∀ o : Orientation, o.axis ≠ 3#2 →
    Spec.mat .quarterTurn o = Spec.mat .quarterTurn { o with flip := 0#1, rot := 0#2 } *
      Spec.quarterTurnX ^ o.rot.toNat * Spec.flipZ ^ o.flip.toNat

/-- The homogeneous form keeps the 3x3 block and has row 3 and column 3 equal to [0,0,0,1] (R115). -/
def Obligations.HomogeneousExtension : Prop :=
  ∀ M : Mat3, (∀ r c : Fin 3, homog M r.castSucc c.castSucc = M r c) ∧
    (∀ c : Fin 3, tritInt (homog M 3 c.castSucc) = 0) ∧ (∀ r : Fin 3, tritInt (homog M r.castSucc 3) = 0) ∧
    tritInt (homog M 3 3) = 1

/-- LOOKUP, combinational: every instruction, presented to the ROM, completes with its word and error (R138, R139). -/
def Obligations.CombinationalLookup : Prop :=
  ∀ (i : Instr) (c : Byte) (s : State), encode i = [c] → s.params.outReg = false → s.RomIntact → s.drive.toRom = true →
    ∃ t, exec i s = .next t ∧ (romPort t).valid = true ∧
      Spec.LookupShows s.params c (romPort t).word (romPort t).err

/-- LOOKUP, registered: every instruction completes as clk, rst and rom_en say, rom_code driven or held (R140, R184).
That an enabled edge loads the register even before the first reset edge, or after a power loss, is the model's choice, R140
and R184 over R182, R37 and R173 (log entry 17). -/
def Obligations.RegisteredReadAtAnEdge : Prop :=
  ∀ (i : Instr) (c : Byte) (s : State), encode i = [c] → s.params.outReg = true → s.RomIntact →
    ∃ t, exec i s = .next t ∧ t.ports.romCode = (if s.drive.toRom = true then c else s.ports.romCode) ∧
      romPort t = ⟨t.q.word, t.q.err, t.q.valid⟩ ∧
      (∀ en, s.drive.clk = .rise true en → t.q = ⟨0, .ok, false⟩) ∧
      (s.drive.clk = .rise false true → Spec.LookupShows s.params t.ports.romCode t.q.word t.q.err ∧ t.q.valid = true) ∧
      (s.drive.clk = .rise false false → t.q = s.q) ∧
      (s.drive.clk = .hold → t.q = s.q ∧ romPort t = romPort s)

/-- A rising edge with rst = 1 gives the register its reset values from any contents (R182). -/
def Obligations.ResetEdgeClearsTheRegister : Prop :=
  ∀ (s : State) (d : Drive) (en : Bool) (c : Byte) (rest : List Txn), s.params.outReg = true →
    s.script = .code d c :: rest → (Txn.code d c).wellFormed s.params = true → d.clk = .rise true en →
    ∃ t, step s = .next t ∧ romPort t = ⟨0, .ok, false⟩ ∧ t.q = ⟨0, .ok, false⟩ ∧ t.rom = s.rom ∧
      t.ports.romCode = (if d.toRom = true then c else s.ports.romCode) ∧
      (d.toDec = false → decPort t = decPort s) ∧ (d.toEnc = false → encPort t = encPort s) ∧
      (d.toMb = false → mbPort t = mbPort s)

/-- Over any run without an enabled or reset edge, the registered ROM shows the same read (R140, R184). -/
def Obligations.RegisteredOutputHoldsUntilNextRead : Prop :=
  ∀ (n : Nat) (s : State), s.params.outReg = true →
    (∀ x ∈ s.script.take n, x.quiet = true ∧ x.wellFormed s.params = true) →
    ∃ t, Host.Core.run Sys2Proof.core n s = .next t ∧ t.q = s.q ∧ romPort t = romPort s

/-- A serialised word or mb_mf: byte b is bits [8b+7:8b], so every lane is little-endian (R44). -/
def Obligations.SerialisedLanesAreLittleEndian : Prop :=
  (∀ w : Word, (serialise w).length = 64 ∧ (∀ b, b < 64 → (serialise w)[b]? = some (w.extractLsb' (8 * b) 8)) ∧
      ∀ k, k < 16 → ∃ b0 b1 b2 b3, (serialise w)[4 * k]? = some b0 ∧ (serialise w)[4 * k + 1]? = some b1 ∧
        (serialise w)[4 * k + 2]? = some b2 ∧ (serialise w)[4 * k + 3]? = some b3 ∧
        (wordLane w k).toNat = b0.toNat + 2 ^ 8 * b1.toNat + 2 ^ 16 * b2.toNat + 2 ^ 24 * b3.toNat) ∧
    ∀ x : MbOut, (serialise x.mf).length = 36 ∧ (∀ b, b < 36 → (serialise x.mf)[b]? = some (x.mf.extractLsb' (8 * b) 8)) ∧
      ∀ k, k < 9 → ∃ b0 b1 b2 b3, (serialise x.mf)[4 * k]? = some b0 ∧ (serialise x.mf)[4 * k + 1]? = some b1 ∧
        (serialise x.mf)[4 * k + 2]? = some b2 ∧ (serialise x.mf)[4 * k + 3]? = some b3 ∧
        (mfLane x k).toNat = b0.toNat + 2 ^ 8 * b1.toNat + 2 ^ 16 * b2.toNat + 2 ^ 24 * b3.toNat

/-- What each ROM entry holds, in all three tables and both word orders (R131, R132, R133, R134). -/
def Obligations.EntriesHoldTheMatrixOfTheirCode : Prop :=
  ∀ (p : Params) (i : Nat), i < p.entries.count →
    (p.entries = .e48 ∨ p.rom24 = .prefixed → Spec.WordShows p (BitVec.ofNat 8 i) (romContents p i)) ∧
    (p.entries = .e24 → p.rom24 = .compressed →
      Spec.WordShows p (BitVec.ofNat 8 (16 * (i / 8) + i % 8)) (romContents p i)) ∧
    (p.entries = .e24 → p.rom24 = .prefixed → romContents p i = romContents { p with entries := .e48 } i) ∧
    wordLane (romContents p i) 15 = 0x3F800000#32 ∧
    ∀ k ∈ [3, 7, 11, 12, 13, 14], wordLane (romContents p i) k = 0x00000000#32

/-- Which entry of a 24-entry ROM a valid code reads, and which codes are not in the table (R136, R137). -/
def Obligations.TwentyFourEntryMappings : Prop :=
  ∀ (p : Params) (m : Rom) (c : Byte), p.entries = .e24 → valid c = true →
    (p.rom24 = .compressed →
      ((fieldsOf c).flip = 1#1 → lookup p m c = (0, .notInTable) ∧
        (0x08 ≤ c.toNat ∧ c.toNat ≤ 0x0F ∨ 0x18 ≤ c.toNat ∧ c.toNat ≤ 0x1F ∨ 0x28 ≤ c.toNat ∧ c.toNat ≤ 0x2F)) ∧
      ((fieldsOf c).flip = 0#1 →
        lookup p m c = (romRead p m (8 * (fieldsOf c).axis.toNat + 4 * (fieldsOf c).sign.toNat + (fieldsOf c).rot.toNat), .ok) ∧
        ∀ d : Byte, valid d = true → (fieldsOf d).flip = 0#1 → idx24 d = idx24 c → d = c)) ∧
    (p.rom24 = .prefixed →
      (24 ≤ c.toNat → lookup p m c = (0, .notInTable)) ∧ (c.toNat < 24 → lookup p m c = (romRead p m c.toNat, .ok)))

/-- The three reserved classes complete, and every unit that takes a code reports InvalidCode (R63, R64). -/
def Obligations.ReservedClassesReportInvalidCode : Prop :=
  ∀ (h : BitVec 1) (a : BitVec 2) (f g : BitVec 1) (r : BitVec 2) (s : State),
    s.drive.toDec = true → s.drive.toRom = true → s.params.outReg = false →
    (∃ t, exec (.rsvAxis3 f g r) s = .next t ∧ decPort t = ⟨⟨r, g, f, 3⟩, .invalidCode⟩ ∧ romPort t = ⟨0, .invalidCode, true⟩) ∧
    (∃ t, exec (.rsvHiB6 a f g r) s = .next t ∧ decPort t = ⟨⟨r, g, f, a⟩, .invalidCode⟩ ∧ romPort t = ⟨0, .invalidCode, true⟩) ∧
    ∃ t, exec (.rsvHiB7 h a f g r) s = .next t ∧ decPort t = ⟨⟨r, g, f, a⟩, .invalidCode⟩ ∧ romPort t = ⟨0, .invalidCode, true⟩

/-- What each table holds, under each variant (R141). -/
def Obligations.RomContentsLaws : Prop :=
  ∀ p : Params,
    (∀ i, i < p.entries.count → (∀ r : Fin 3, wordLane (romContents p i) (laneOf p.order r.castSucc 3) = 0x00000000#32 ∧
        wordLane (romContents p i) (laneOf p.order 3 r.castSucc) = 0x00000000#32) ∧
      wordLane (romContents p i) (laneOf p.order 3 3) = 0x3F800000#32) ∧
    (p.alg = .quarterTurn → p.entries = .e48 →
      (∀ M, Spec.SignedPerm M → ∃! i, i < 48 ∧ wordMat p.order (romContents p i) = M) ∧
      ∀ i, i < 48 → Spec.SignedPerm (wordMat p.order (romContents p i)) ∧
        (wordMat p.order (romContents p i)).det = if i / 8 % 2 = 0 then 1 else -1) ∧
    (p.alg = .quarterTurn → p.entries = .e24 → p.rom24 = .compressed →
      (∀ M, Spec.SignedPerm M → M.det = 1 → ∃! i, i < 24 ∧ wordMat p.order (romContents p i) = M) ∧
      ∀ i, i < 24 → (wordMat p.order (romContents p i)).det = 1) ∧
    (p.alg = .quarterTurn → p.entries = .e24 → p.rom24 = .prefixed →
      (∀ i j, i < 24 → j < 24 → wordMat p.order (romContents p i) = wordMat p.order (romContents p j) → i = j) ∧
      ∀ i, i < 24 → (wordMat p.order (romContents p i)).det = if i < 8 ∨ 16 ≤ i then 1 else -1) ∧
    (p.alg = .literal → Spec.romCensus p =
      match p.entries, p.rom24 with
      | .e48, _ => (24, 24)
      | .e24, .compressed => (24, 12)
      | .e24, .prefixed => (16, 12))

/-- Where the lookup is OK, the ROM word's upper-left block is MB's f32 output, lane for lane (R143). -/
def Obligations.RomAgreesWithMatrixBuilder : Prop :=
  ∀ (i : Instr) (s : State), s.params.outReg = false → s.RomIntact →
    s.drive.toDec = true → s.drive.toMb = true → s.drive.toRom = true →
    ∃ t, exec i s = .next t ∧ ((romPort t).err = .ok → ∀ r k : Fin 3,
      wordLane (romPort t).word (laneOf s.params.order r.castSucc k.castSucc) = mfLane (mbPort t) (3 * k.val + r.val) ∧
      (s.params.order = .colMajor →
        wordLane (romPort t).word (4 * k.val + r.val) = mfLane (mbPort t) (3 * k.val + r.val)))

/-- No port ever drives an element pattern other than those of 0, +1 and -1 (R30, R31, R134). -/
def Obligations.OnlyTheThreeElementPatternsAreDriven : Prop :=
  (∀ s : State, s.Inv → ∀ k, k < 16 → (laneInt (wordLane (romPort s).word k)).isSome = true) ∧
    ∀ s : State, ∀ k, k < 9 → (laneInt (mfLane (mbPort s) k)).isSome = true ∧ (mbPort s).m.extractLsb' (2 * k) 2 ≠ 0b10#2

/-- A consumer is given no data where a unit reports an error, and no word before a read completed (R82, R84, R107, R138, R140, R161, R183).
The consumer's view is the model's form of U8 (log entry 10). -/
def Obligations.ConsumerGetsErrorInsteadOfData : Prop :=
  (∀ s : State,
      ((decPort s).err ≠ .ok → decResult s = .error (decPort s).err) ∧
      (∀ e, encPort s = some e → e.err ≠ .ok → encResult s = some (.error e.err)) ∧
      ((mbPort s).err ≠ .ok → mbResult s = .error (mbPort s).err) ∧
      (s.params.outReg = false → (romPort s).err ≠ .ok → romResult s = some (.error (romPort s).err)) ∧
      (s.params.outReg = true → s.q.valid = false → romResult s = none) ∧
      (s.params.outReg = true → s.q.valid = true → s.q.err ≠ .ok → romResult s = some (.error s.q.err)) ∧
      (s.params.outReg = true → s.q.valid = true → s.q.err = .ok → romResult s = some (.ok s.q.word))) ∧
    (∀ p : Params, p.outReg = true → romResult (State.resetOf p) = none) ∧
    ∀ (i : Instr) (c : Byte) (s : State), encode i = [c] → ∃ t, exec i s = .next t ∧
      (s.drive.toDec = true →
        (Spec.Valid c → decResult t = .ok (Spec.fields c)) ∧ (¬ Spec.Valid c → decResult t = .error .invalidCode) ∧
        (s.drive.toMb = true → c.extractLsb' 4 2 = 3#2 → mbResult t = .error .invalidField) ∧
        (s.drive.toEnc = true → s.params.hasEnc = true → c.extractLsb' 4 2 = 3#2 →
          encResult t = some (.error .invalidField))) ∧
      (s.drive.toRom = true → s.params.outReg = false →
        (¬ Spec.Valid c → romResult t = some (.error .invalidCode)) ∧
        (Spec.Valid c → ¬ Spec.HasEntry s.params c → romResult t = some (.error .notInTable)) ∧
        (Spec.Valid c → Spec.HasEntry s.params c → romResult t = some (.ok (romPort t).word)))

/-- The output register's fields are the ROM's outputs, and its reset values are zero word, OK and 0 (R34). -/
def Obligations.RegisterDrivesOutputsAndResetValues : Prop :=
  (∀ s : State, s.params.outReg = true → romPort s = ⟨s.q.word, s.q.err, s.q.valid⟩) ∧
    ∀ p : Params, (State.resetOf p).q.word = 0 ∧ errCode (State.resetOf p).q.err = 0b00#2 ∧ (State.resetOf p).q.valid = false

/-- What reset and power-on leave, and that every combinational output is the function of its inputs in every state (R37, R139, R180, R181).
The value of ENTRIES in State.reset is the model's choice (log entry 1) and is left open here; so are the input levels at reset and the
register at power-on (log entries 6 and 8). -/
def Obligations.ResetStateOfEveryOutput : Prop :=
  (∀ p : Params, (State.resetOf p).params = p ∧ (State.powerOn p).params = p ∧
      (∀ i, romRead p (State.resetOf p).rom i = romContents p i ∧ romRead p (State.powerOn p).rom i = romContents p i) ∧
      (State.resetOf p).q = ⟨0, .ok, false⟩ ∧ (p.outReg = true → romPort (State.resetOf p) = ⟨0, .ok, false⟩)) ∧
    (∃ e, State.reset = State.resetOf { entries := e, rom24 := .compressed, alg := .quarterTurn, order := .colMajor,
                                        outReg := false, hasEnc := true }) ∧
    ∀ s : State,
      (decPort s).fields = Spec.fields s.ports.decCode ∧
      ((decPort s).err = .ok ↔ Spec.Valid s.ports.decCode) ∧
      ((decPort s).err = .invalidCode ↔ ¬ Spec.Valid s.ports.decCode) ∧
      (s.params.hasEnc = true → ∃ e, encPort s = some e ∧
        e.code.toNat = 16 * s.ports.enc.axis.toNat + 8 * s.ports.enc.flip.toNat + 4 * s.ports.enc.sign.toNat +
          s.ports.enc.rot.toNat ∧
        (e.err = .ok ↔ s.ports.enc.axis ≠ 3#2) ∧ (e.err = .invalidField ↔ s.ports.enc.axis = 3#2)) ∧
      Spec.MbShows s.params.alg s.ports.mb (mbPort s) ∧
      (s.params.outReg = false → s.RomIntact → (romPort s).valid = true ∧
        Spec.LookupShows s.params s.ports.romCode (romPort s).word (romPort s).err)

/-- The state after reset is safe, for every instance (R34, R37, R181).
The empty script at reset is the model's choice (log entry 2). -/
def Obligations.ResetIsSafe : Prop :=
  ∀ p : Params, (State.resetOf p).Inv

/-- A step from a safe state succeeds and gives a safe state (R33, R34, R36, R46, R50, R140, R184). -/
def Obligations.EveryStepKeepsTheStateSafe : Prop :=
  (∀ s : State, s.Inv → ∃ t, step s = .next t) ∧ ∀ s t : State, s.Inv → step s = .next t → t.Inv

/-- No script, valid or full of errors, can stop or spoil a safe machine (R87, R161, R162, R184). -/
def Obligations.EveryRunFromASafeStateGoesOn : Prop :=
  ∀ (n : Nat) (s : State), s.Inv →
    ∃ t, Host.Core.run Sys2Proof.core n s = .next t ∧ t.Inv ∧ t.params = s.params ∧ t.script = s.script.drop n

/-- No step, power loss and reset included, changes a parameter or an entry of the ROM (R24, R33, R46, R50, R181).
The canonical form of the ROM's record is the model's (log entry 11). -/
def Obligations.ParametersAndRomNeverChange : Prop :=
  ∀ s t : State, step s = .next t → t.params = s.params ∧ (∀ i, romRead t.params t.rom i = romRead s.params s.rom i) ∧
    (romWf s.params 0 s.rom = true → romWf t.params 0 t.rom = true)

/-- A power loss changes nothing but the output register, and a reset edge then settles it (R37, R173, R181).
The power loss as a transaction and the free values are the model's form of R173 (log entry 8). -/
def Obligations.PowerLossLeavesOnlyTheRegisterOpen : Prop :=
  ∀ (s : State) (rest : List Txn), s.script = .powerLoss :: rest →
    ∃ t, step s = .next t ∧ t.params = s.params ∧ t.rom = s.rom ∧ t.ports = s.ports ∧ t.script = rest ∧
      decPort t = decPort s ∧ encPort t = encPort s ∧ mbPort t = mbPort s ∧
      (s.params.outReg = false → romPort t = romPort s) ∧
      (∀ en c rest', s.params.outReg = true → rest = .edge true en c :: rest' →
        ∃ u, step t = .next u ∧ romPort u = ⟨0, .ok, false⟩)
end

