-- ==== Sys2Proof/Laws/State.lean ====
section
/-! SUPPORT. One lemma per field per update of the state. -/

namespace Sys2Proof.Machine.State

variable (s : State) (q : OutReg) (p : Ports) (d : Drive) (l : List Txn) (n : Nat)

@[simp] theorem setQ_params : (s.setQ q).params = s.params := rfl
@[simp] theorem setQ_rom : (s.setQ q).rom = s.rom := rfl
@[simp] theorem setQ_q : (s.setQ q).q = q := rfl
@[simp] theorem setQ_ports : (s.setQ q).ports = s.ports := rfl
@[simp] theorem setQ_drive : (s.setQ q).drive = s.drive := rfl
@[simp] theorem setQ_script : (s.setQ q).script = s.script := rfl
@[simp] theorem setQ_draws : (s.setQ q).draws = s.draws := rfl

@[simp] theorem setPorts_params : (s.setPorts p).params = s.params := rfl
@[simp] theorem setPorts_rom : (s.setPorts p).rom = s.rom := rfl
@[simp] theorem setPorts_q : (s.setPorts p).q = s.q := rfl
@[simp] theorem setPorts_ports : (s.setPorts p).ports = p := rfl
@[simp] theorem setPorts_drive : (s.setPorts p).drive = s.drive := rfl
@[simp] theorem setPorts_script : (s.setPorts p).script = s.script := rfl
@[simp] theorem setPorts_draws : (s.setPorts p).draws = s.draws := rfl

@[simp] theorem setDrive_params : (s.setDrive d).params = s.params := rfl
@[simp] theorem setDrive_rom : (s.setDrive d).rom = s.rom := rfl
@[simp] theorem setDrive_q : (s.setDrive d).q = s.q := rfl
@[simp] theorem setDrive_ports : (s.setDrive d).ports = s.ports := rfl
@[simp] theorem setDrive_drive : (s.setDrive d).drive = d := rfl
@[simp] theorem setDrive_script : (s.setDrive d).script = s.script := rfl
@[simp] theorem setDrive_draws : (s.setDrive d).draws = s.draws := rfl

@[simp] theorem setScript_params : (s.setScript l).params = s.params := rfl
@[simp] theorem setScript_rom : (s.setScript l).rom = s.rom := rfl
@[simp] theorem setScript_q : (s.setScript l).q = s.q := rfl
@[simp] theorem setScript_ports : (s.setScript l).ports = s.ports := rfl
@[simp] theorem setScript_drive : (s.setScript l).drive = s.drive := rfl
@[simp] theorem setScript_script : (s.setScript l).script = l := rfl
@[simp] theorem setScript_draws : (s.setScript l).draws = s.draws := rfl

@[simp] theorem setDraws_params : (s.setDraws n).params = s.params := rfl
@[simp] theorem setDraws_rom : (s.setDraws n).rom = s.rom := rfl
@[simp] theorem setDraws_q : (s.setDraws n).q = s.q := rfl
@[simp] theorem setDraws_ports : (s.setDraws n).ports = s.ports := rfl
@[simp] theorem setDraws_drive : (s.setDraws n).drive = s.drive := rfl
@[simp] theorem setDraws_script : (s.setDraws n).script = s.script := rfl
@[simp] theorem setDraws_draws : (s.setDraws n).draws = n := rfl

end Sys2Proof.Machine.State
end

