-- ==== Sys2Proof/Laws/Ops.lean ====
section
/-! SUPPORT. What each shared operation can do, said once. -/

namespace Sys2Proof.Machine

/-- Every instruction presents its code byte. -/
theorem exec_eq_present (i : Instr) (s : State) : exec i s = .next (present (encodeByte i) s) := by
  cases i <;> rfl

section Present

variable (c : Byte) (s : State)

@[simp] theorem clockEdge_params : (clockEdge s).params = s.params := by unfold clockEdge; split <;> [rfl; split <;> rfl]
@[simp] theorem clockEdge_rom : (clockEdge s).rom = s.rom := by unfold clockEdge; split <;> [rfl; split <;> rfl]
@[simp] theorem clockEdge_ports : (clockEdge s).ports = s.ports := by unfold clockEdge; split <;> [rfl; split <;> rfl]
@[simp] theorem clockEdge_drive : (clockEdge s).drive = s.drive := by unfold clockEdge; split <;> [rfl; split <;> rfl]
@[simp] theorem clockEdge_script : (clockEdge s).script = s.script := by unfold clockEdge; split <;> [rfl; split <;> rfl]
@[simp] theorem clockEdge_draws : (clockEdge s).draws = s.draws := by unfold clockEdge; split <;> [rfl; split <;> rfl]

theorem clockEdge_of_hold (h : s.drive.clk = .hold) : clockEdge s = s := by simp [clockEdge, h]

theorem clockEdge_of_absent (h : s.params.outReg = false) : clockEdge s = s := by
  unfold clockEdge; split <;> simp [h]

theorem clockEdge_q_of_rise {rst en : Bool} (h : s.drive.clk = .rise rst en) (p : s.params.outReg = true) :
    (clockEdge s).q = nextOutReg rst en (romLookup s) s.q := by simp [clockEdge, h, p]

@[simp] theorem present_params : (present c s).params = s.params := by simp [present]
@[simp] theorem present_rom : (present c s).rom = s.rom := by simp [present]
@[simp] theorem present_ports : (present c s).ports = drivenPorts c s := by simp [present]
@[simp] theorem present_drive : (present c s).drive = s.drive := by simp [present]
@[simp] theorem present_script : (present c s).script = s.script := by simp [present]
@[simp] theorem present_draws : (present c s).draws = s.draws := by simp [present]

theorem present_q_of_hold (h : s.drive.clk = .hold) : (present c s).q = s.q := by
  simp [present, clockEdge_of_hold (s.setPorts (drivenPorts c s)) (by simpa using h)]

theorem present_q_of_absent (h : s.params.outReg = false) : (present c s).q = s.q := by
  simp [present, clockEdge_of_absent (s.setPorts (drivenPorts c s)) (by simpa using h)]

theorem present_q_of_rise {rst en : Bool} (h : s.drive.clk = .rise rst en) (p : s.params.outReg = true) :
    (present c s).q = nextOutReg rst en (lookup s.params s.rom (drivenPorts c s).romCode) s.q := by
  simpa [present, romLookup] using clockEdge_q_of_rise (s.setPorts (drivenPorts c s)) (by simpa using h) (by simpa using p)

end Present

section PowerLoss

variable (s : State)

@[simp] theorem powerLoss_params : (powerLoss s).params = s.params := by unfold powerLoss; split <;> rfl
@[simp] theorem powerLoss_rom : (powerLoss s).rom = s.rom := by unfold powerLoss; split <;> rfl
@[simp] theorem powerLoss_ports : (powerLoss s).ports = s.ports := by unfold powerLoss; split <;> rfl
@[simp] theorem powerLoss_drive : (powerLoss s).drive = s.drive := by unfold powerLoss; split <;> rfl
@[simp] theorem powerLoss_script : (powerLoss s).script = s.script := by unfold powerLoss; split <;> rfl

end PowerLoss

/-- Everything a step can do: stop on a transaction that does not fit, idle, present a code, drive ENC or MB, lose power. -/
theorem step_eq (s : State) :
    step s = match s.script with
      | [] => .next s
      | t :: rest =>
        if t.wellFormed s.params then
          match t with
          | .code d c => .next (present (encodeByte (decodeByte c)) ((s.setScript rest).setDrive d))
          | .enc o => .next (((s.setScript rest).setDrive .none).setPorts { s.ports with enc := o })
          | .mb o => .next (((s.setScript rest).setDrive .none).setPorts { s.ports with mb := o })
          | .powerLoss => .next (powerLoss ((s.setScript rest).setDrive .none))
        else .fault .portAbsent := by
  unfold step fetch
  rcases h : s.script with _ | ⟨t, rest⟩
  · rfl
  · by_cases w : t.wellFormed s.params = true
    · cases t <;> simp [w, beginTxn, exec_eq_present]
    · simp [w]

/-- No step changes the parameters. -/
theorem step_params {s t : State} (h : step s = .next t) : t.params = s.params := by
  rw [step_eq] at h
  split at h
  · cases h; rfl
  · split at h
    · split at h <;> cases h <;> simp
    · cases h

/-- No step changes the ROM: the block has no write. -/
theorem step_rom {s t : State} (h : step s = .next t) : t.rom = s.rom := by
  rw [step_eq] at h
  split at h
  · cases h; rfl
  · split at h
    · split at h <;> cases h <;> simp
    · cases h

/-- The only operation on the ROM is a read, so a step keeps its canonical form. -/
theorem step_romWf {s t : State} (h : step s = .next t) (w : romWf s.params 0 s.rom = true) :
    romWf t.params 0 t.rom = true := by
  rw [step_params h, step_rom h]; exact w

/-- The ROM of an instance right after reset has the canonical form. -/
theorem resetOf_romWf (p : Params) : romWf p 0 (State.resetOf p).rom = true := rfl

/-- A run of one step more, when the first step succeeds. -/
theorem run_succ (M : Host.Core) (n : Nat) {s t : M.State} (h : M.step s = .next t) : M.run (n + 1) s = M.run n t := by
  simp [Host.Core.run, h]

/-- An intact ROM reads as its contents. -/
@[simp] theorem romRead_nil (p : Params) (i : Nat) : romRead p [] i = romContents p i := rfl

theorem lookup_of_invalid (p : Params) (m : Rom) {c : Byte} (h : valid c = false) :
    lookup p m c = (zeroWord, .invalidCode) := by simp [lookup, h, raiseRom]

theorem lookup_of_entry (p : Params) (m : Rom) {c : Byte} {i : Nat} (h : valid c = true) (e : entryOf p c = some i) :
    lookup p m c = (romRead p m i, .ok) := by simp [lookup, h, e]

theorem lookup_of_noEntry (p : Params) (m : Rom) {c : Byte} (h : valid c = true) (e : entryOf p c = none) :
    lookup p m c = (zeroWord, .notInTable) := by simp [lookup, h, e, raiseRom]

/-- A lookup reads only entries that exist. -/
theorem entryOf_lt (p : Params) (c : Byte) (h : valid c = true) (i : Nat) (e : entryOf p c = some i) :
    i < p.entries.count := by
  have all : ∀ c : Byte, valid c = true → c.toNat < 48 ∧ (c.getLsbD 3 = false → (idx24 c).toNat < 24) := by decide
  obtain ⟨h48, h24⟩ := all c h
  unfold entryOf at e
  split at e
  · cases e; simp [*, Entries.count]
  · split at e
    · cases e
    · cases e; simpa [*, Entries.count] using h24 (Bool.eq_false_iff.mpr ‹_›)
  · split at e
    · cases e
    · cases e; simp_all [Entries.count]

end Sys2Proof.Machine
end

