-- ==== Sys2Proof/Laws/Packing.lean ====
section
/-! SUPPORT. What a packed vector shows lane by lane: the lemmas that spare every later proof the arithmetic. -/

namespace Sys2Proof.Machine

theorem packLanes_div_mod {w : Nat} (l : List (BitVec w)) (k : Nat) (h : k < l.length) :
    packLanes l / 2 ^ (w * k) % 2 ^ w = l[k].toNat := by
  induction l generalizing k with
  | nil => simp at h
  | cons x xs ih =>
    cases k with
    | zero => simp [packLanes, Nat.mod_eq_of_lt x.isLt]
    | succ k =>
      have e : w * (k + 1) = w + w * k := by ring
      simp only [packLanes, List.getElem_cons_succ, e, pow_add, ← Nat.div_div_eq_div_mul]
      rw [Nat.add_mul_div_left _ _ (Nat.two_pow_pos w), Nat.div_eq_of_lt x.isLt, Nat.zero_add]
      exact ih k (by simpa using h)

/-- Lane `k` of a packed list is its element `k`, where the whole lane fits. -/
theorem extract_packLanes {w n : Nat} (l : List (BitVec w)) (k : Nat) (h : k < l.length) (fits : w * k + w ≤ n) :
    (BitVec.ofNat n (packLanes l)).extractLsb' (w * k) w = l[k] := by
  apply BitVec.eq_of_toNat_eq
  rw [BitVec.extractLsb'_toNat, BitVec.toNat_ofNat, Nat.shiftRight_eq_div_pow, ← packLanes_div_mod l k h,
    ← Nat.mod_mul_right_div_self, ← pow_add, ← Nat.mod_mul_right_div_self (packLanes l), ← pow_add,
    Nat.mod_mod_of_dvd _ (Nat.pow_dvd_pow 2 fits)]

end Sys2Proof.Machine
end

