-- ==== Sys2Proof/Laws/PerInstr.lean ====
section
/-! SUPPORT. The per-instruction families: RoundTrip, the decoder reads back what the encoder writes. -/

namespace Sys2Proof.Laws.RoundTrip

/-- Decoding the byte of an instruction gives the instruction. -/
def Statement (i : Instr) : Prop := decodeByte (encodeByte i) = i

theorem oA0S0F0R0 : Statement .oA0S0F0R0 := rfl
theorem oA0S0F0R1 : Statement .oA0S0F0R1 := rfl
theorem oA0S0F0R2 : Statement .oA0S0F0R2 := rfl
theorem oA0S0F0R3 : Statement .oA0S0F0R3 := rfl
theorem oA0S1F0R0 : Statement .oA0S1F0R0 := rfl
theorem oA0S1F0R1 : Statement .oA0S1F0R1 := rfl
theorem oA0S1F0R2 : Statement .oA0S1F0R2 := rfl
theorem oA0S1F0R3 : Statement .oA0S1F0R3 := rfl
theorem oA0S0F1R0 : Statement .oA0S0F1R0 := rfl
theorem oA0S0F1R1 : Statement .oA0S0F1R1 := rfl
theorem oA0S0F1R2 : Statement .oA0S0F1R2 := rfl
theorem oA0S0F1R3 : Statement .oA0S0F1R3 := rfl
theorem oA0S1F1R0 : Statement .oA0S1F1R0 := rfl
theorem oA0S1F1R1 : Statement .oA0S1F1R1 := rfl
theorem oA0S1F1R2 : Statement .oA0S1F1R2 := rfl
theorem oA0S1F1R3 : Statement .oA0S1F1R3 := rfl
theorem oA1S0F0R0 : Statement .oA1S0F0R0 := rfl
theorem oA1S0F0R1 : Statement .oA1S0F0R1 := rfl
theorem oA1S0F0R2 : Statement .oA1S0F0R2 := rfl
theorem oA1S0F0R3 : Statement .oA1S0F0R3 := rfl
theorem oA1S1F0R0 : Statement .oA1S1F0R0 := rfl
theorem oA1S1F0R1 : Statement .oA1S1F0R1 := rfl
theorem oA1S1F0R2 : Statement .oA1S1F0R2 := rfl
theorem oA1S1F0R3 : Statement .oA1S1F0R3 := rfl
theorem oA1S0F1R0 : Statement .oA1S0F1R0 := rfl
theorem oA1S0F1R1 : Statement .oA1S0F1R1 := rfl
theorem oA1S0F1R2 : Statement .oA1S0F1R2 := rfl
theorem oA1S0F1R3 : Statement .oA1S0F1R3 := rfl
theorem oA1S1F1R0 : Statement .oA1S1F1R0 := rfl
theorem oA1S1F1R1 : Statement .oA1S1F1R1 := rfl
theorem oA1S1F1R2 : Statement .oA1S1F1R2 := rfl
theorem oA1S1F1R3 : Statement .oA1S1F1R3 := rfl
theorem oA2S0F0R0 : Statement .oA2S0F0R0 := rfl
theorem oA2S0F0R1 : Statement .oA2S0F0R1 := rfl
theorem oA2S0F0R2 : Statement .oA2S0F0R2 := rfl
theorem oA2S0F0R3 : Statement .oA2S0F0R3 := rfl
theorem oA2S1F0R0 : Statement .oA2S1F0R0 := rfl
theorem oA2S1F0R1 : Statement .oA2S1F0R1 := rfl
theorem oA2S1F0R2 : Statement .oA2S1F0R2 := rfl
theorem oA2S1F0R3 : Statement .oA2S1F0R3 := rfl
theorem oA2S0F1R0 : Statement .oA2S0F1R0 := rfl
theorem oA2S0F1R1 : Statement .oA2S0F1R1 := rfl
theorem oA2S0F1R2 : Statement .oA2S0F1R2 := rfl
theorem oA2S0F1R3 : Statement .oA2S0F1R3 := rfl
theorem oA2S1F1R0 : Statement .oA2S1F1R0 := rfl
theorem oA2S1F1R1 : Statement .oA2S1F1R1 := rfl
theorem oA2S1F1R2 : Statement .oA2S1F1R2 := rfl
theorem oA2S1F1R3 : Statement .oA2S1F1R3 := rfl

theorem rsvAxis3 (flip sign : BitVec 1) (rot : BitVec 2) : Statement (.rsvAxis3 flip sign rot) := by
  unfold Statement; revert flip sign rot; decide

theorem rsvHiB6 (axis : BitVec 2) (flip sign : BitVec 1) (rot : BitVec 2) : Statement (.rsvHiB6 axis flip sign rot) := by
  unfold Statement; revert axis flip sign rot; decide

theorem rsvHiB7 (h : BitVec 1) (axis : BitVec 2) (flip sign : BitVec 1) (rot : BitVec 2) :
    Statement (.rsvHiB7 h axis flip sign rot) := by
  unfold Statement; revert h axis flip sign rot; decide

end Sys2Proof.Laws.RoundTrip
end

