-- ==== Sys2Proof/Tests/Slice0.lean ====
section
/-! SUPPORT. Tests with results from the spec's own vectors, the smoke test of WellFormed, and a witness for the hypotheses
of every statement. -/

namespace Sys2Proof.Tests

open Sys2Proof.Machine

/-- An instance with the defaults of R4. -/
def p48 : Params := .default .e48

/-- A 24-entry compressed instance with an output register. -/
def p24r : Params := { Params.default .e24 with outReg := true }

/-- Every unit driven, no clock edge. -/
def all : Drive := { toDec := true, toEnc := true, toMb := true, toRom := true, clk := .hold }

/-- The state after reset with a current transaction. -/
def st (p : Params) (d : Drive) : State := (State.resetOf p).setDrive d

/-- The state after reset with a script. -/
def sc (p : Params) (l : List Txn) : State := (State.resetOf p).setScript l

/-! Decoding: one byte for every row, bit by bit from the table's encoding column (R60, R63, R64, R68). -/

theorem test_decode_axis0 :
    [0b00000000#8, 0b00000001#8, 0b00000010#8, 0b00000011#8, 0b00000100#8, 0b00000101#8, 0b00000110#8, 0b00000111#8,
     0b00001000#8, 0b00001001#8, 0b00001010#8, 0b00001011#8, 0b00001100#8, 0b00001101#8, 0b00001110#8, 0b00001111#8].map decodeByte =
    [.oA0S0F0R0, .oA0S0F0R1, .oA0S0F0R2, .oA0S0F0R3, .oA0S1F0R0, .oA0S1F0R1, .oA0S1F0R2, .oA0S1F0R3,
     .oA0S0F1R0, .oA0S0F1R1, .oA0S0F1R2, .oA0S0F1R3, .oA0S1F1R0, .oA0S1F1R1, .oA0S1F1R2, .oA0S1F1R3] := by decide

theorem test_decode_axis1 :
    [0b00010000#8, 0b00010001#8, 0b00010010#8, 0b00010011#8, 0b00010100#8, 0b00010101#8, 0b00010110#8, 0b00010111#8,
     0b00011000#8, 0b00011001#8, 0b00011010#8, 0b00011011#8, 0b00011100#8, 0b00011101#8, 0b00011110#8, 0b00011111#8].map decodeByte =
    [.oA1S0F0R0, .oA1S0F0R1, .oA1S0F0R2, .oA1S0F0R3, .oA1S1F0R0, .oA1S1F0R1, .oA1S1F0R2, .oA1S1F0R3,
     .oA1S0F1R0, .oA1S0F1R1, .oA1S0F1R2, .oA1S0F1R3, .oA1S1F1R0, .oA1S1F1R1, .oA1S1F1R2, .oA1S1F1R3] := by decide

theorem test_decode_axis2 :
    [0b00100000#8, 0b00100001#8, 0b00100010#8, 0b00100011#8, 0b00100100#8, 0b00100101#8, 0b00100110#8, 0b00100111#8,
     0b00101000#8, 0b00101001#8, 0b00101010#8, 0b00101011#8, 0b00101100#8, 0b00101101#8, 0b00101110#8, 0b00101111#8].map decodeByte =
    [.oA2S0F0R0, .oA2S0F0R1, .oA2S0F0R2, .oA2S0F0R3, .oA2S1F0R0, .oA2S1F0R1, .oA2S1F0R2, .oA2S1F0R3,
     .oA2S0F1R0, .oA2S0F1R1, .oA2S0F1R2, .oA2S0F1R3, .oA2S1F1R0, .oA2S1F1R1, .oA2S1F1R2, .oA2S1F1R3] := by decide

theorem test_decode_reserved :
    [0b00110000#8, 0b00111010#8, 0b01000000#8, 0b01100101#8, 0b10000000#8, 0b11010110#8].map decodeByte =
    [.rsvAxis3 0 0 0, .rsvAxis3 1 0 2, .rsvHiB6 0 0 0 0, .rsvHiB6 2 0 1 1, .rsvHiB7 0 0 0 0 0, .rsvHiB7 1 1 0 1 2] := by decide

/-- The rows' match and mask (R68) on all 256 bytes: one row each. -/
theorem test_rows_do_not_overlap :
    ((List.range 256).map (BitVec.ofNat 8)).all (fun b =>
      (((List.range 48).map (fun m => (BitVec.ofNat 8 m, 0xFF#8)) ++ [(0x30#8, 0xF0#8), (0x40#8, 0xC0#8), (0x80#8, 0x80#8)]).filter
        fun r => b &&& r.2 == r.1).length == 1) = true := by decide +kernel

theorem test_table_word : decodeTableWord 8 0x10 = some .oA1S0F0R0 ∧ decodeTableWord 16 0x0110 = some .oA1S0F0R0 ∧
    decodeTableWord 0 0 = none := by decide

/-! WellFormed refuses a term for each of its checks. -/

theorem test_wellFormed_refuses_absent_encoder :
    Txn.wellFormed { p48 with hasEnc := false } (.enc ⟨0, 0, 0, 0⟩) = false ∧ Txn.wellFormed p48 (.enc ⟨0, 0, 0, 0⟩) = true := by
  decide

theorem test_wellFormed_refuses_chain_to_absent_encoder :
    Txn.wellFormed { p48 with hasEnc := false } (.code all 0x10) = false ∧ Txn.wellFormed p48 (.code all 0x10) = true := by decide

theorem test_wellFormed_refuses_absent_clock :
    Txn.wellFormed p48 (.edge false true 0x10) = false ∧ Txn.wellFormed p24r (.edge false true 0x10) = true := by decide

theorem test_illFormed_step_stops : step (sc p48 [.edge true false 0]) = .fault .portAbsent := by rfl

/-! DECODE and ENCODE: 95_test_vectors.md 2.1 and 2.2. -/

/-- A row of 2.1: rot, sign, flip, axis, err. -/
def decRow (c : Byte) : List Nat × Err :=
  let x := decOut c
  ([x.fields.rot.toNat, x.fields.sign.toNat, x.fields.flip.toNat, x.fields.axis.toNat], x.err)

theorem test_dec_vectors :
    [0x00#8, 0x10#8, 0x04#8, 0x0B#8, 0x2F#8, 0x30#8, 0x3F#8, 0x40#8, 0x65#8, 0x80#8, 0x7F#8, 0xFF#8].map decRow =
    [([0, 0, 0, 0], .ok), ([0, 0, 0, 1], .ok), ([0, 1, 0, 0], .ok), ([3, 0, 1, 0], .ok), ([3, 1, 1, 2], .ok),
     ([0, 0, 0, 3], .invalidCode), ([3, 1, 1, 3], .invalidCode), ([0, 0, 0, 0], .invalidCode), ([1, 1, 0, 2], .invalidCode),
     ([0, 0, 0, 0], .invalidCode), ([3, 1, 1, 3], .invalidCode), ([3, 1, 1, 3], .invalidCode)] := by decide

theorem test_enc_vectors :
    [encOut ⟨0, 0, 0, 0⟩, encOut ⟨0, 0, 0, 1⟩, encOut ⟨0, 1, 0, 0⟩, encOut ⟨2, 0, 1, 1⟩, encOut ⟨3, 1, 1, 2⟩,
     encOut ⟨1, 1, 0, 2⟩, encOut ⟨0, 0, 0, 3⟩, encOut ⟨3, 1, 1, 3⟩, encOut ⟨2, 0, 1, 3⟩] =
    [⟨0x00, .ok⟩, ⟨0x10, .ok⟩, ⟨0x04, .ok⟩, ⟨0x1A, .ok⟩, ⟨0x2F, .ok⟩, ⟨0x25, .ok⟩, ⟨0x30, .invalidField⟩,
     ⟨0x3F, .invalidField⟩, ⟨0x3A, .invalidField⟩] := by decide

/-! BUILD_MATRIX: `mb_m` of every valid code, 95_test_vectors.md 2.3. -/

theorem test_mb_m_axis0 : (List.range 16).map (fun i => (mbOut .quarterTurn (fieldsOf (BitVec.ofNat 8 (0 + i)))).m) =
    [0x10101#18, 0x0C401#18, 0x30301#18, 0x04C01#18, 0x04403#18, 0x30103#18, 0x0CC03#18, 0x10303#18,
     0x30101#18, 0x04401#18, 0x10301#18, 0x0CC01#18, 0x0C403#18, 0x10103#18, 0x04C03#18, 0x30303#18] := by
  decide +kernel

theorem test_mb_m_axis1 : (List.range 16).map (fun i => (mbOut .quarterTurn (fieldsOf (BitVec.ofNat 8 (16 + i)))).m) =
    [0x01404#18, 0x30044#18, 0x03C04#18, 0x100C4#18, 0x1004C#18, 0x0340C#18, 0x300CC#18, 0x01C0C#18,
     0x03404#18, 0x10044#18, 0x01C04#18, 0x300C4#18, 0x3004C#18, 0x0140C#18, 0x100CC#18, 0x03C0C#18] := by
  decide +kernel

theorem test_mb_m_axis2 : (List.range 16).map (fun i => (mbOut .quarterTurn (fieldsOf (BitVec.ofNat 8 (32 + i)))).m) =
    [0x04050#18, 0x03110#18, 0x0C0D0#18, 0x01310#18, 0x01130#18, 0x0C070#18, 0x03330#18, 0x040F0#18,
     0x0C050#18, 0x01110#18, 0x040D0#18, 0x03310#18, 0x03130#18, 0x04070#18, 0x01330#18, 0x0C0F0#18] := by
  decide +kernel

/-- The nine elements of a matrix on `mb_m`, row by row. -/
def rowsOf (x : MbOut) : List Int := (List.finRange 3).flatMap fun r => (List.finRange 3).map fun c => mbMat x r c

/-- Program P1, step 2: the triple's ports, the matrix and the error of `MB 1 1 1 1`. -/
theorem test_mb_p1 : (mbOut .quarterTurn ⟨1, 1, 1, 1⟩).pairAxis = 0x09#6 ∧ (mbOut .quarterTurn ⟨1, 1, 1, 1⟩).pairNeg = 0b001#3 ∧
    rowsOf (mbOut .quarterTurn ⟨1, 1, 1, 1⟩) = [0, 0, 1, -1, 0, 0, 0, 1, 0] ∧ (mbOut .quarterTurn ⟨1, 1, 1, 1⟩).err = .ok := by decide +kernel

/-- 2.3: `MB 3 s f r` gives zeros. -/
theorem test_mb_invalid_axis : mbOut .quarterTurn ⟨2, 0, 1, 3⟩ = ⟨0, 0, 0, 0, .invalidField⟩ := by decide +kernel

/-- ALG_VARIANT = LITERAL, 95_test_vectors.md 2.4, axis 0. -/
theorem test_mb_literal_axis0 :
    [0x01#8, 0x03#8, 0x05#8, 0x07#8, 0x09#8, 0x0B#8, 0x0D#8, 0x0F#8].map (fun c => rowsOf (mbOut .literal (fieldsOf c))) =
    [[1, 0, 0, 0, 1, 0, 0, 0, -1], [1, 0, 0, 0, -1, 0, 0, 0, 1],
     [-1, 0, 0, 0, 0, -1, 0, 1, 0], [-1, 0, 0, 0, 0, 1, 0, -1, 0],
     [1, 0, 0, 0, 1, 0, 0, 0, 1], [1, 0, 0, 0, -1, 0, 0, 0, -1],
     [-1, 0, 0, 0, 0, 1, 0, 1, 0], [-1, 0, 0, 0, 0, -1, 0, -1, 0]] := by decide +kernel

/-- ALG_VARIANT = LITERAL, 95_test_vectors.md 2.4, axis 1. -/
theorem test_mb_literal_axis1 :
    [0x11#8, 0x13#8, 0x15#8, 0x17#8, 0x19#8, 0x1B#8, 0x1D#8, 0x1F#8].map (fun c => rowsOf (mbOut .literal (fieldsOf c))) =
    [[0, 0, -1, 1, 0, 0, 0, 1, 0], [0, 0, 1, 1, 0, 0, 0, -1, 0],
     [0, 1, 0, -1, 0, 0, 0, 0, -1], [0, -1, 0, -1, 0, 0, 0, 0, 1],
     [0, 0, 1, 1, 0, 0, 0, 1, 0], [0, 0, -1, 1, 0, 0, 0, -1, 0],
     [0, 1, 0, -1, 0, 0, 0, 0, 1], [0, -1, 0, -1, 0, 0, 0, 0, -1]] := by decide +kernel

/-- ALG_VARIANT = LITERAL, 95_test_vectors.md 2.4, axis 2. -/
theorem test_mb_literal_axis2 :
    [0x21#8, 0x23#8, 0x25#8, 0x27#8, 0x29#8, 0x2B#8, 0x2D#8, 0x2F#8].map (fun c => rowsOf (mbOut .literal (fieldsOf c))) =
    [[0, 1, 0, 0, 0, -1, 1, 0, 0], [0, -1, 0, 0, 0, 1, 1, 0, 0],
     [0, 0, -1, 0, 1, 0, -1, 0, 0], [0, 0, 1, 0, -1, 0, -1, 0, 0],
     [0, 1, 0, 0, 0, 1, 1, 0, 0], [0, -1, 0, 0, 0, -1, 1, 0, 0],
     [0, 0, 1, 0, 1, 0, -1, 0, 0], [0, 0, -1, 0, -1, 0, -1, 0, 0]] := by decide +kernel

/-! LOOKUP: 95_test_vectors.md 2.6. -/

theorem test_lookup_48 :
    lookup p48 [] 0x01 = (0x3F8000000000000000000000000000000000000000000000BF80000000000000000000003F80000000000000000000000000000000000000000000003F800000#512, .ok) ∧
    lookup p48 [] 0x1D = (0x3F8000000000000000000000000000000000000000000000000000003F800000000000003F80000000000000000000000000000000000000BF80000000000000#512, .ok) ∧
    lookup p48 [] 0x2F = (0x3F8000000000000000000000000000000000000000000000BF80000000000000000000000000000000000000BF80000000000000BF8000000000000000000000#512, .ok) ∧
    lookup { p48 with order := .rowMajor } [] 0x01 = (0x3F80000000000000000000000000000000000000000000003F8000000000000000000000BF80000000000000000000000000000000000000000000003F800000#512, .ok) := by
  decide +kernel

theorem test_lookup_24 :
    lookup p24r [] 0x21 = (0x3F800000000000000000000000000000000000000000000000000000BF80000000000000000000003F80000000000000000000003F8000000000000000000000#512, .ok) ∧
    lookup p24r [] 0x1D = (0, .notInTable) ∧ lookup { p24r with rom24 := .prefixed } [] 0x1D = (0, .notInTable) ∧
    lookup { p24r with rom24 := .prefixed } [] 0x21 = (0, .notInTable) ∧ lookup p24r [] 0x0B = (0, .notInTable) ∧
    (lookup { p24r with rom24 := .prefixed } [] 0x0B).2 = .ok := by
  decide +kernel

theorem test_lookup_errors : [0x30#8, 0x48#8, 0xFF#8].map (lookup p24r []) = List.replicate 3 (0, .invalidCode) := by
  decide +kernel

/-! Registered reads: edges of program P3, each one step from the register the edge before left. -/

/-- A P3 state: the register holds code `c`'s lookup, the script one line. -/
def p3 (c : Byte) (x : Txn) : State :=
  (sc p24r [x]).setQ { word := (lookup p24r [] c).1, err := (lookup p24r [] c).2, valid := true }

/-- What the ROM shows after one step. -/
def romAfter (s : State) : Option RomOut :=
  match step s with
  | .next t => some (romPort t)
  | .fault _ => none
  | .refused _ => none

/-- Edge 1: reset wins over enable, from any contents. -/
theorem test_p3_edge1 : romAfter ((State.powerOn p24r).setScript [.edge true true 0x21]) = some ⟨0, .ok, false⟩ := by
  decide +kernel

/-- Edge 4: an enabled read of 0x21. -/
theorem test_p3_edge4 : romAfter (p3 0x00 (.edge false true 0x21)) = some ⟨(lookup p24r [] 0x21).1, .ok, true⟩ := by
  decide +kernel

/-- Edge 5: not enabled, 0x08 is not seen. -/
theorem test_p3_edge5 : romAfter (p3 0x21 (.edge false false 0x08)) = some ⟨(lookup p24r [] 0x21).1, .ok, true⟩ := by
  decide +kernel

/-- Edges 6 and 7: NotInTable and InvalidCode. -/
theorem test_p3_edges67 : romAfter (p3 0x21 (.edge false true 0x08)) = some ⟨0, .notInTable, true⟩ ∧
    romAfter (p3 0x08 (.edge false true 0x30)) = some ⟨0, .invalidCode, true⟩ := by decide +kernel

/-- P2, steps 6 and 7: ENC with axis 3, then what DEC says of its code. -/
theorem test_p2_enc : (match step (sc p48 [.enc ⟨2, 0, 1, 3⟩]) with
    | .next t => encPort t
    | .fault _ => none
    | .refused _ => none) = some ⟨0x3A, .invalidField⟩ ∧ (decOut 0x3A).err = .invalidCode := by decide +kernel

/-- The word of an instruction placed at reset is the first instruction, on every unit (P1: 0x1D). -/
theorem test_placed_word : (match step (State.reset.withFetchWord 8 0x1D) with
    | .next t => some ((decPort t).fields, (mbPort t).m, (romPort t).err)
    | .fault _ => none
    | .refused _ => none) = some (⟨1, 1, 1, 1⟩, 0x0140C#18, .ok) := by decide +kernel

/-- R44: the bytes of the word of code 0x01, first lane +1.0 in little-endian order. -/
theorem test_serialise : ((serialise (lookup p48 [] 0x01).1).take 8) = [0x00, 0x00, 0x80, 0x3F, 0, 0, 0, 0] := by decide +kernel

/-- R32: the four patterns. -/
theorem test_errCodes : [Err.ok, .invalidField, .invalidCode, .notInTable].map errCode = [0#2, 1#2, 2#2, 3#2] := by decide

/-! Witnesses: for every statement with hypotheses, a state and operands that meet all of them, and one for each clause at
a boundary of its range. -/

/-- Only the ROM driven, with a clock. -/
def romAt (k : Clk) : Drive := { Drive.none with toRom := true, clk := k }

theorem witness_everyByte_boundaries :
    [0x2F#8, 0x30#8, 0x3F#8, 0x40#8, 0x7F#8, 0x80#8, 0xFF#8].map decodeByte =
    [.oA2S1F1R3, .rsvAxis3 0 0 0, .rsvAxis3 1 1 3, .rsvHiB6 0 0 0 0, .rsvHiB6 3 1 1 3, .rsvHiB7 0 0 0 0 0, .rsvHiB7 1 3 1 1 3] := by
  decide

theorem witness_codeValue : (0x17#8).extractLsb' 6 2 = 0#2 ∧ (0x17#8).toNat ≤ 23 ∧ ¬ (0x18#8).toNat ≤ 23 := by decide

theorem witness_validCodes : valid 0x2F = true ∧ valid 0x30 = false ∧ (Orientation.mk 3 1 1 2).axis ≠ 3#2 := by decide

theorem witness_compressedIndex : valid 0x27 = true ∧ (fieldsOf 0x27).flip = 0#1 ∧ (23#5).toNat < 24 := by decide

theorem witness_errorPatterns : (lookup p24r [] 0x08).2 = .notInTable ∧ (lookup p24r [] 0x30).2 = .invalidCode := by decide

theorem witness_stepRuns : encode .oA1S0F0R0 = [0x10#8] ∧ (sc p48 [.code all 0x10]).script = [.code all 0x10] ∧
    (Txn.code all 0x10).wellFormed (sc p48 [.code all 0x10]).params = true := by decide

theorem witness_placedCode : encode (.rsvHiB7 1 3 1 1 3) = [0xFF#8] := by decide

theorem witness_stepsWithout :
    (sc p48 []).script = [] ∧ step (sc { p48 with hasEnc := false } [.enc ⟨0, 0, 0, 0⟩]) = .fault .portAbsent ∧
    step (sc { p48 with hasEnc := false } [.code all 0x10]) = .fault .portAbsent ∧
    step (sc p48 [.edge false false 0x10]) = .fault .portAbsent := ⟨rfl, rfl, rfl, rfl⟩

theorem witness_scriptLineDec : (sc p48 [.dec 0x10, .rom 0x10]).script = .dec 0x10 :: [.rom 0x10] := rfl

theorem witness_frame : (st p48 .none).drive.toDec = false ∧ (st p48 .none).drive.toEnc = false ∧
    (st p48 .none).drive.toMb = false ∧ (st p48 .none).drive.toRom = false ∧ (st p48 .none).params.outReg = false ∧
    (st { p48 with hasEnc := false } all).params.hasEnc = false ∧ (st p24r .none).drive.clk = .hold ∧
    (st p24r (romAt (.rise false false))).drive.clk = .rise false false := by decide

theorem witness_unitsNotDriven : (st p24r .none).params.outReg = true ∧ (st p24r .none).drive.clk = .hold ∧
    (st p24r .none).drive.toRom = false := by decide

theorem witness_outputsDependOnlyOnCode : (st p48 all).drive.toEnc = true ∧ (st p24r (romAt (.rise true false))).params.outReg = true ∧
    (exec .oA0S0F1R0 (st p24r { Drive.none with clk := .rise false true })) =
      .next { st p24r { Drive.none with clk := .rise false true } with q := ⟨romContents p24r 0, .ok, true⟩ } :=
  ⟨rfl, rfl, rfl⟩

theorem witness_decode : encode .oA2S1F1R3 = [0x2F#8] ∧ encode (.rsvAxis3 0 0 0) = [0x30#8] ∧ (st p48 all).drive.toDec = true := by
  decide

theorem witness_encode : (sc p48 [.enc ⟨3, 1, 1, 2⟩]).params.hasEnc = true ∧
    (sc p48 [.enc ⟨3, 1, 1, 2⟩]).script = .enc ⟨3, 1, 1, 2⟩ :: [] ∧ (sc p48 [.enc ⟨0, 0, 0, 3⟩]).script = .enc ⟨0, 0, 0, 3⟩ :: [] := by
  decide

theorem witness_encoderAbsent : (st { p48 with hasEnc := false } all).params.hasEnc = false := rfl

theorem witness_orientation : (Orientation.mk 3 1 1 2).axis ≠ 3#2 ∧ (Orientation.mk 3 1 0 2).flip = 0#1 := by decide

theorem witness_codeRoundTrip : encode .oA2S1F1R3 = [0x2F#8] ∧ Spec.Valid 0x2F#8 ∧
    encode (.rsvAxis3 0 0 0) = [0x30#8] ∧ (0x30#8).extractLsb' 4 2 = 3#2 ∧ ¬ Spec.Valid 0x30#8 ∧
    encode (.rsvHiB6 0 0 0 0) = [0x40#8] ∧ ¬ Spec.Valid 0x40#8 ∧ (0x40#8).extractLsb' 4 2 ≠ 3#2 ∧
    (st p48 all).params.hasEnc = true ∧ (st p48 all).drive.toDec = true ∧ (st p48 all).drive.toEnc = true := by
  unfold Spec.Valid; decide

theorem witness_matrixBuilder : (sc p48 [.mb ⟨3, 1, 1, 2⟩]).script = .mb ⟨3, 1, 1, 2⟩ :: [] ∧
    (Orientation.mk 3 1 1 2).axis.toNat ≠ 3 ∧ (sc p48 [.mb ⟨3, 1, 1, 3⟩]).script = .mb ⟨3, 1, 1, 3⟩ :: [] ∧
    (Orientation.mk 3 1 1 3).axis.toNat = 3 := by decide

theorem witness_chain : encode .oA1S1F1R1 = [0x1D#8] ∧ (st p48 all).drive.toDec = true ∧ (st p48 all).drive.toMb = true := by
  decide

theorem witness_opcodeTable : (st p48 all).params.alg = .quarterTurn ∧ (st p48 all).params.outReg = false ∧
    (st p48 all).RomIntact ∧ (st p48 all).drive.toRom = true ∧ (Spec.rowsAxis0 ++ Spec.rowsAxis1 ++ Spec.rowsAxis2).length = 48 ∧
    (st (.default .e24) all).params.entries = .e24 ∧ (st (.default .e24) all).params.rom24 = .compressed :=
  ⟨rfl, rfl, rfl, rfl, by decide, rfl, rfl⟩

theorem witness_axisAdd : (0 : Int) < 3 ∧ axisAdd 2 1 3 = 0 ∧ axisAdd 0 (-1) 3 = 2 := by decide

theorem witness_signedPerm : Spec.SignedPerm (1 : Matrix (Fin 3) (Fin 3) Int) ∧ (1 : Matrix (Fin 3) (Fin 3) Int).det = 1 := by
  refine ⟨⟨fun r => ⟨r, by simp, fun y h => ?_⟩, fun c => ⟨c, by simp, fun y h => ?_⟩, fun r c => ?_⟩, by simp⟩
  · by_contra n; exact h (Matrix.one_apply_ne (Ne.symm n))
  · by_contra n; exact h (Matrix.one_apply_ne n)
  · by_cases e : r = c
    · exact .inr (.inl (by rw [e, Matrix.one_apply_eq]))
    · exact .inl (Matrix.one_apply_ne e)

theorem witness_normalColumn : (Orientation.mk 0 1 0 2).axis.toNat = (2 : Fin 3).val := by decide

theorem witness_combinationalLookup : encode .oA2S1F1R3 = [0x2F#8] ∧ (st p48 all).params.outReg = false ∧ (st p48 all).RomIntact ∧
    (st p48 all).drive.toRom = true ∧ Spec.HasEntry p48 0x2F ∧ ¬ Spec.HasEntry (.default .e24) 0x08 ∧
    Spec.HasEntry { Params.default .e24 with rom24 := .prefixed } 0x17 ∧
    ¬ Spec.HasEntry { Params.default .e24 with rom24 := .prefixed } 0x18 :=
  ⟨rfl, rfl, rfl, rfl, .inl rfl, by unfold Spec.HasEntry; decide, by unfold Spec.HasEntry; decide, by unfold Spec.HasEntry; decide⟩

theorem witness_registeredRead (b : Bool) (k : Clk) : encode .oA2S0F0R1 = [0x21#8] ∧
    (st p24r { Drive.none with toRom := b, clk := k }).params.outReg = true ∧
    (st p24r { Drive.none with toRom := b, clk := k }).RomIntact ∧ (st p24r { Drive.none with toRom := b, clk := k }).drive.toRom = b ∧
    (st p24r { Drive.none with toRom := b, clk := k }).drive.clk = k :=
  ⟨rfl, rfl, rfl, rfl, rfl⟩

theorem witness_resetEdge (b : Bool) : ((State.powerOn p24r).setScript [.code { Drive.none with toRom := b, clk := .rise true true } 0x21]).params.outReg = true ∧
    ((State.powerOn p24r).setScript [.code { Drive.none with toRom := b, clk := .rise true true } 0x21]).script =
      .code { Drive.none with toRom := b, clk := .rise true true } 0x21 :: [] ∧
    (Txn.code { Drive.none with toRom := b, clk := .rise true true } 0x21).wellFormed p24r = true := ⟨rfl, rfl, by cases b <;> decide⟩

theorem witness_registeredHolds : (sc p24r [.rom 0x08, .edge false false 0x30, .edge false true 0]).params.outReg = true ∧
    ∀ x ∈ (sc p24r [.rom 0x08, .edge false false 0x30, .edge false true 0]).script.take 2,
      x.quiet = true ∧ x.wellFormed p24r = true := by decide

theorem witness_entries : 47 < p48.entries.count ∧ 23 < p24r.entries.count ∧ p24r.rom24 = .compressed ∧
    23 < ({ p24r with rom24 := .prefixed } : Params).entries.count := by decide

theorem witness_mappings : p24r.entries = .e24 ∧ valid 0x08 = true ∧ (fieldsOf 0x08).flip = 1#1 ∧ valid 0x27 = true ∧
    (fieldsOf 0x27).flip = 0#1 ∧ valid 0x18 = true ∧ 24 ≤ (0x18#8).toNat ∧ valid 0x17 = true ∧ (0x17#8).toNat < 24 := by decide

theorem witness_reserved : (st p48 all).drive.toDec = true ∧ (st p48 all).drive.toRom = true ∧ (st p48 all).params.outReg = false := by
  decide

theorem witness_romLaws : ({ p48 with alg := .literal } : Params).alg = .literal ∧ p48.alg = .quarterTurn ∧ p48.entries = .e48 ∧
    p24r.entries = .e24 ∧ p24r.rom24 = .compressed := by decide

theorem witness_romAgrees : (st p48 all).RomIntact ∧ (lookup p48 (st p48 all).rom 0x2F).2 = .ok ∧ p48.order = .colMajor :=
  ⟨rfl, by decide, rfl⟩

/-- A safe state that is not the reset state: the register shows a completed read, and a script is to come. -/
theorem witness_safeState : (p3 0x21 (.edge false true 0x30)).Inv :=
  ⟨rfl, .inr ⟨0x21, rfl, rfl, rfl⟩, by unfold State.ScriptSafe; decide⟩

theorem witness_safeStep : ∃ t, step (p3 0x21 (.edge false true 0x30)) = .next t := ⟨_, rfl⟩

theorem witness_consumer : (st p48 all).params.outReg = false ∧ (st p48 all).drive.toDec = true ∧ (st p48 all).drive.toMb = true ∧
    (st p48 all).drive.toEnc = true ∧ (st p48 all).params.hasEnc = true ∧
    (st p48 all).drive.toRom = true ∧ Spec.Valid 0x2F#8 ∧ ¬ Spec.Valid 0x30#8 ∧ (0x30#8).extractLsb' 4 2 = 3#2 ∧ p24r.outReg = true := by
  unfold Spec.Valid; decide

/-- The clauses of the consumer's view: no entry, each unit's error on its own inputs, and the register's three cases. -/
theorem witness_consumer_errors : ¬ Spec.HasEntry (.default .e24) 0x08 ∧ Spec.HasEntry (.default .e24) 0x07 ∧
    (decPort { st p48 .none with ports := { State.resetPorts with decCode := 0x30 } }).err ≠ .ok ∧
    encPort { st p48 .none with ports := { State.resetPorts with enc := ⟨0, 0, 0, 3⟩ } } = some ⟨0x30, .invalidField⟩ ∧
    (mbPort { st p48 .none with ports := { State.resetPorts with mb := ⟨0, 0, 0, 3⟩ } }).err ≠ .ok ∧
    (romPort { st (.default .e24) .none with ports := { State.resetPorts with romCode := 0x08 } }).err ≠ .ok ∧
    ({ st p24r .none with q := ⟨0, .notInTable, true⟩ } : State).q.valid = true ∧
    ({ st p24r .none with q := ⟨0, .notInTable, true⟩ } : State).q.err ≠ .ok ∧
    (st p24r .none).q.valid = false ∧ (st p24r .none).q.err = .ok :=
  ⟨by unfold Spec.HasEntry; decide, by unfold Spec.HasEntry; decide, by decide, by decide, by decide, by decide, rfl, by decide, rfl, rfl⟩

theorem witness_resetStateOfEveryOutput : p24r.outReg = true ∧ p48.hasEnc = true ∧ (State.resetOf p48).params.outReg = false ∧
    (State.resetOf p48).RomIntact ∧ (State.powerOn p48).RomIntact := ⟨rfl, rfl, rfl, rfl, rfl⟩

theorem witness_registerOutputs : (st p24r .none).params.outReg = true ∧ p48.outReg = false := by decide

theorem witness_powerLoss : (sc p24r [.powerLoss, .edge true false 0]).script = .powerLoss :: [.edge true false 0] ∧
    (sc p24r [.powerLoss, .edge true false 0]).params.outReg = true ∧ (sc p48 [.powerLoss]).params.outReg = false := by decide

end Sys2Proof.Tests
end

section
/-! PROOFS. What the output ports show after a code is presented, the matrix MB drives as integers, the rows of the opcode
table, and the encoder that is absent without HAS_ENC. -/

namespace Sys2Proof.Machine

/-! The ports after `present`. -/

section PortsAfterPresent

variable {c : Byte} {s : State}

theorem decPort_present (hdec : s.drive.toDec = true) : decPort (present c s) = decOut c := by
  simp [decPort, drivenPorts, hdec]

/-- The chain: DEC's fields reach MB in the same transaction (R69). -/
theorem mbPort_present (hdec : s.drive.toDec = true) (hmb : s.drive.toMb = true) :
    mbPort (present c s) = mbOut s.params.alg (fieldsOf c) := by
  simp [mbPort, drivenPorts, hdec, hmb, decOut]

theorem romLookup_present (hrom : s.drive.toRom = true) : romLookup (present c s) = lookup s.params s.rom c := by
  simp [romLookup, drivenPorts, hrom]

/-- Without an output register the ROM shows the lookup itself (R139). -/
theorem romPort_of_combinational (h : s.params.outReg = false) :
    romPort s = { word := (romLookup s).1, err := (romLookup s).2, valid := true } := by
  simp [romPort, h]

theorem romPort_present (hreg : s.params.outReg = false) (hrom : s.drive.toRom = true) :
    romPort (present c s) =
      { word := (lookup s.params s.rom c).1, err := (lookup s.params s.rom c).2, valid := true } := by
  rw [romPort_of_combinational (by simpa using hreg), romLookup_present hrom]

end PortsAfterPresent

/-- Without HAS_ENC the encoder's outputs do not exist (R26). -/
theorem encPort_of_absent {s : State} (h : s.params.hasEnc = false) : encPort s = none := by
  simp [encPort, h]

/-! The lookup of a valid code. -/

theorem lookup_err_ok_iff (p : Params) (m : Rom) {c : Byte} (h : valid c = true) :
    (lookup p m c).2 = .ok ↔ (entryOf p c).isSome = true := by
  cases e : entryOf p c with
  | none => simp [lookup_of_noEntry p m h e]
  | some i => simp [lookup_of_entry p m h e]

/-- The entry of a code in a compressed 24-entry ROM rests on these two parameters alone (R132, R136). -/
theorem entryOf_compressed {p : Params} (he : p.entries = .e24) (hr : p.rom24 = .compressed) (c : Byte) :
    entryOf p c = entryOf (.default .e24) c := by
  simp [entryOf, Params.default, he, hr]

/-! The matrix on `mb_m`. -/

/-- The algebra's matrix with its elements read as integers (R30, R106). -/
def intMat (v : AlgVariant) (o : Orientation) : Matrix (Fin 3) (Fin 3) Int :=
  Matrix.of fun r c => tritInt (matOf (tripleOf v o) r c)

theorem toInt_tritBits (x : Trit) : (tritBits x).toInt = tritInt x := by
  cases x <;> rfl

theorem lanes3_length (M : Mat3) : (lanes3 M).length = 9 := rfl

/-- Element `3c + r` of the lane order is `M[r][c]` (R108, R109). -/
theorem lanes3_getElem (M : Mat3) (r c : Fin 3) (h : 3 * c.val + r.val < (lanes3 M).length) :
    (lanes3 M)[3 * c.val + r.val] = M r c := by
  fin_cases r <;> fin_cases c <;> rfl

/-- The bits of `M[r][c]` on the port `mb_m` (R109). -/
theorem extract_trits (M : Mat3) (r c : Fin 3) :
    (trits M).extractLsb' (2 * (3 * c.val + r.val)) 2 = tritBits (M r c) := by
  have hk : 3 * c.val + r.val < (lanes3 M).length := by rw [lanes3_length]; omega
  rw [trits, extract_packLanes _ _ (by simpa using hk) (by omega), List.getElem_map, lanes3_getElem]

theorem fieldErr_eq_ok {o : Orientation} (h : o.axis ≠ 3#2) : fieldErr o = .ok := if_neg h

/-- For an axis other than 3, MB drives the algebra's matrix (R100, R106, R109). -/
theorem mbMat_mbOut (v : AlgVariant) {o : Orientation} (h : o.axis ≠ 3#2) : mbMat (mbOut v o) = intMat v o := by
  ext r c
  simp [mbMat, mbOut, fieldErr_eq_ok h, extract_trits, toInt_tritBits, intMat]

/-- Under QUARTER_TURN only `flip` mirrors the matrix (R111). -/
theorem det_intMat_quarterTurn {o : Orientation} (h : o.axis ≠ 3#2) :
    (intMat .quarterTurn o).det = if o.flip = 0#1 then 1 else -1 := by
  obtain ⟨rot, sign, flip, axis⟩ := o
  rw [Matrix.det_fin_three]
  revert rot sign flip axis
  decide

theorem axis_ne_three_of_valid {c : Byte} (h : valid c = true) : (fieldsOf c).axis ≠ 3#2 := by
  simp only [valid, Bool.and_eq_true, bne_iff_ne] at h
  exact h.2

/-! The rows of the opcode table, read through the byte of each row. -/

/-- The 48 valid rows of the opcode table (R68). -/
abbrev opcodeRows : List Spec.Row := Spec.rowsAxis0 ++ Spec.rowsAxis1 ++ Spec.rowsAxis2

theorem opcodeRows_valid : ∀ row ∈ opcodeRows, valid (encodeByte row.1) = true := by decide

theorem opcodeRows_fields : ∀ row ∈ opcodeRows,
    ((fieldsOf (encodeByte row.1)).axis.toNat, (fieldsOf (encodeByte row.1)).flip.toNat,
      (fieldsOf (encodeByte row.1)).sign.toNat, (fieldsOf (encodeByte row.1)).rot.toNat) = row.2.1 := by decide

theorem opcodeRows_matrix : ∀ row ∈ opcodeRows, ∀ r c : Fin 3,
    row.2.2.1[3 * r.val + c.val]? = some (intMat .quarterTurn (fieldsOf (encodeByte row.1)) r c) := by decide

/-- The column `det` is the reflection that `flip` says (R111). -/
theorem opcodeRows_det : ∀ row ∈ opcodeRows,
    (if (fieldsOf (encodeByte row.1)).flip = 0#1 then 1 else -1) = row.2.2.2.1 := by decide

/-- The column `idx24` is the entry of the row's code in a compressed 24-entry ROM (R66, R136). -/
theorem opcodeRows_entry : ∀ row ∈ opcodeRows,
    entryOf (.default .e24) (encodeByte row.1) = row.2.2.2.2 := by decide

/-- What a row says of the state in which its code has been presented to DEC, MB and ROM. -/
theorem rowHolds_present {s : State} (halg : s.params.alg = .quarterTurn) (hreg : s.params.outReg = false)
    (hintact : s.RomIntact) (hdec : s.drive.toDec = true) (hmb : s.drive.toMb = true) (hrom : s.drive.toRom = true)
    {row : Spec.Row} (hrow : row ∈ opcodeRows) : Spec.RowHolds row s (present (encodeByte row.1) s) := by
  have hvalid := opcodeRows_valid row hrow
  have haxis := axis_ne_three_of_valid hvalid
  have hmat : mbMat (mbPort (present (encodeByte row.1) s)) = intMat .quarterTurn (fieldsOf (encodeByte row.1)) := by
    rw [mbPort_present hdec hmb, halg, mbMat_mbOut _ haxis]
  refine ⟨?err, ?fields, ?matrix, ?det, fun he hc => ?entry⟩
  case err => simp [decPort_present hdec, decOut, decErr, hvalid]
  case fields => rw [decPort_present hdec]; exact opcodeRows_fields row hrow
  case matrix => rw [hmat]; exact opcodeRows_matrix row hrow
  case det => rw [hmat, det_intMat_quarterTurn haxis]; exact opcodeRows_det row hrow
  case entry =>
    have hentry : entryOf s.params (encodeByte row.1) = row.2.2.2.2 := by
      rw [entryOf_compressed he hc, opcodeRows_entry row hrow]
    rw [romPort_present hreg hrom, ← hentry]
    refine ⟨lookup_err_ok_iff _ _ hvalid, fun i hi => ?_⟩
    rw [lookup_of_entry _ _ hvalid hi, hintact, romRead_nil]

end Sys2Proof.Machine

open Sys2Proof.Machine

/-- Settles O22: each row is checked on its code byte, and every unit's port shows what that byte gives. -/
theorem opcodeTableRowsHold : Obligations.OpcodeTableRowsHold := by
  intro s halg hreg hintact hdec hmb hrom row hrow
  exact ⟨_, exec_eq_present row.1 s, rowHolds_present halg hreg hintact hdec hmb hrom hrow⟩

/-- Settles O17: no instruction changes HAS_ENC, on which ENC's outputs rest. -/
theorem encoderAbsentWithoutHasEnc : Obligations.EncoderAbsentWithoutHasEnc := by
  intro i s h
  exact ⟨encPort_of_absent h, _, exec_eq_present i s, encPort_of_absent (by simpa using h)⟩
end

section
/-! PROOFS. One rule for each thing a step can do, and what follows of the state: progress, the frame of every instruction,
the invariant, power loss, and that the units not driven keep their outputs. -/

namespace Sys2Proof.Machine

/-! The step as the effect of one transaction. -/

/-- The state after a fitting transaction has been taken off the script (R69). -/
def afterTxn : Txn → State → State
  | .code d c, s => present (encodeByte (decodeByte c)) (s.setDrive d)
  | .enc o, s => (s.setDrive .none).setPorts { s.ports with enc := o }
  | .mb o, s => (s.setDrive .none).setPorts { s.ports with mb := o }
  | .powerLoss, s => powerLoss (s.setDrive .none)

section StepRules

variable {s t : State} {x : Txn} {rest : List Txn}

theorem step_of_nil (h : s.script = []) : step s = .next s := by
  simp [step_eq, h]

theorem step_of_cons (h : s.script = x :: rest) (fits : x.wellFormed s.params = true) :
    step s = .next (afterTxn x (s.setScript rest)) := by
  cases x <;> simp [step_eq, h, fits, afterTxn]

theorem step_of_absent (h : s.script = x :: rest) (unfit : x.wellFormed s.params = false) :
    step s = .fault .portAbsent := by
  simp [step_eq, h, unfit]

/-- A step stops exactly when the next transaction does not fit (log entry 9). -/
theorem step_eq_fault_iff :
    step s = .fault .portAbsent ↔ ∃ x rest, s.script = x :: rest ∧ x.wellFormed s.params = false := by
  constructor
  · intro stops
    cases h : s.script with
    | nil => simp [step_of_nil h] at stops
    | cons x rest =>
      refine ⟨x, rest, rfl, Bool.eq_false_iff.mpr fun fits => ?_⟩
      simp [step_of_cons h fits] at stops
  · rintro ⟨x, rest, h, unfit⟩
    exact step_of_absent h unfit

theorem step_ne_refused (s : State) (r : Refusal) : step s ≠ .refused r := by
  cases h : s.script with
  | nil => simp [step_of_nil h]
  | cons x rest =>
    cases fits : x.wellFormed s.params with
    | true => simp [step_of_cons h fits]
    | false => simp [step_of_absent h fits]

/-- A step that succeeds idles or has the effect of the next transaction. -/
theorem step_cases (h : step s = .next t) :
    (s.script = [] ∧ t = s) ∨
      ∃ x rest, s.script = x :: rest ∧ x.wellFormed s.params = true ∧ t = afterTxn x (s.setScript rest) := by
  cases hs : s.script with
  | nil =>
    rw [step_of_nil hs] at h
    exact .inl ⟨rfl, (Host.Outcome.next.inj h).symm⟩
  | cons x rest =>
    cases fits : x.wellFormed s.params with
    | true =>
      rw [step_of_cons hs fits] at h
      exact .inr ⟨x, rest, rfl, fits, (Host.Outcome.next.inj h).symm⟩
    | false => simp [step_of_absent hs fits] at h

end StepRules

@[simp] theorem afterTxn_params (x : Txn) (s : State) : (afterTxn x s).params = s.params := by
  cases x <;> simp [afterTxn]

@[simp] theorem afterTxn_rom (x : Txn) (s : State) : (afterTxn x s).rom = s.rom := by
  cases x <;> simp [afterTxn]

@[simp] theorem afterTxn_script (x : Txn) (s : State) : (afterTxn x s).script = s.script := by
  cases x <;> simp [afterTxn]

theorem clk_wellFormed_eq_false_iff (p : Params) (k : Clk) :
    k.wellFormed p = false ↔ p.outReg = false ∧ ∃ rst en, k = .rise rst en := by
  cases k with
  | hold => simp [Clk.wellFormed]
  | rise rst en => exact ⟨fun h => ⟨h, rst, en, rfl⟩, fun h => h.1⟩

/-- A transaction does not fit when it drives ENC or the clock where it is absent (R26, R28). -/
theorem wellFormed_eq_false_iff (p : Params) (x : Txn) : x.wellFormed p = false ↔
    (p.hasEnc = false ∧ ((∃ o, x = .enc o) ∨ ∃ d c, x = .code d c ∧ d.toEnc = true)) ∨
      (p.outReg = false ∧ ∃ d c rst en, x = .code d c ∧ d.clk = .rise rst en) := by
  cases x with
  | code d c =>
    have hcode : (Txn.code d c).wellFormed p = false ↔
        (d.toEnc = true ∧ p.hasEnc = false) ∨ d.clk.wellFormed p = false := by
      rw [Txn.wellFormed, Bool.and_eq_false_iff]
      simp
    simp [hcode, clk_wellFormed_eq_false_iff, and_comm]
  | enc o => simp [Txn.wellFormed]
  | mb o => simp [Txn.wellFormed]
  | powerLoss => simp [Txn.wellFormed]

/-! Presenting a code: the outputs of the units that are not driven, and the history that a code forgets. -/

section Present

variable {c : Byte} {s : State}

/-- The register after presenting a code is the old one, its reset values, or the lookup of the code at `rom_code` (R140). -/
theorem present_q_cases (c : Byte) (s : State) :
    (present c s).q = s.q ∨ (present c s).q = .reset ∨
      (present c s).q = { word := (lookup s.params s.rom (drivenPorts c s).romCode).1,
                          err := (lookup s.params s.rom (drivenPorts c s).romCode).2, valid := true } := by
  cases hclk : s.drive.clk with
  | hold => exact .inl (present_q_of_hold c s hclk)
  | rise rst en =>
    cases hreg : s.params.outReg with
    | false => exact .inl (present_q_of_absent c s hreg)
    | true =>
      rw [present_q_of_rise c s hclk hreg]
      cases rst <;> cases en <;> simp [nextOutReg]

/-- An edge with neither reset nor enable, or no edge, or no register: nothing is loaded (R140). -/
theorem present_q_of_quiet (h : s.params.outReg = false ∨ s.drive.clk = .hold ∨ s.drive.clk = .rise false false) :
    (present c s).q = s.q := by
  obtain hreg | hclk | hclk := h
  · exact present_q_of_absent c s hreg
  · exact present_q_of_hold c s hclk
  · cases hreg : s.params.outReg with
    | false => exact present_q_of_absent c s hreg
    | true => simp [present_q_of_rise c s hclk hreg, nextOutReg]

theorem decPort_present_undriven (h : s.drive.toDec = false) : decPort (present c s) = decPort s := by
  simp [decPort, drivenPorts, h]

theorem encPort_present_undriven (h : s.drive.toEnc = false) : encPort (present c s) = encPort s := by
  simp [encPort, drivenPorts, h]

theorem mbPort_present_undriven (h : s.drive.toMb = false) : mbPort (present c s) = mbPort s := by
  simp [mbPort, drivenPorts, h]

theorem romPort_of_registered (h : s.params.outReg = true) :
    romPort s = { word := s.q.word, err := s.q.err, valid := s.q.valid } := by
  simp [romPort, h]

theorem romPort_present_registered (hreg : s.params.outReg = true) (hclk : s.drive.clk = .hold) :
    romPort (present c s) = romPort s := by
  rw [romPort_of_registered hreg, romPort_of_registered (by simpa using hreg), present_q_of_hold c s hclk]

theorem romPort_present_undriven (hrom : s.drive.toRom = false) (hclk : s.drive.clk = .hold) :
    romPort (present c s) = romPort s := by
  cases hreg : s.params.outReg with
  | true => exact romPort_present_registered hreg hclk
  | false =>
    rw [romPort_of_combinational hreg, romPort_of_combinational (by simpa using hreg)]
    simp [romLookup, drivenPorts, hrom]

/-- Under one drive every input level is driven by the new code or held from before both codes. -/
theorem drivenPorts_present (c d : Byte) (s : State) : drivenPorts d (present c s) = drivenPorts d s := by
  simp only [drivenPorts, present_drive, present_params, present_ports]
  split_ifs <;> rfl

/-- An edge either overwrites the register or keeps it, whatever was read before. -/
theorem present_present_q (c d : Byte) (s : State) : (present d (present c s)).q = (present d s).q := by
  by_cases h : s.params.outReg = false ∨ s.drive.clk = .hold ∨ s.drive.clk = .rise false false
  · rw [present_q_of_quiet (by simpa using h), present_q_of_quiet h, present_q_of_quiet h]
  · obtain ⟨hreg, hhold, hkeep⟩ := by simpa only [not_or] using h
    cases hclk : s.drive.clk with
    | hold => exact absurd hclk hhold
    | rise rst en =>
      have hreg : s.params.outReg = true := by simpa using hreg
      rw [present_q_of_rise d s hclk hreg, present_q_of_rise d _ (by simpa using hclk) (by simpa using hreg)]
      cases rst <;> cases en <;> simp_all [nextOutReg, drivenPorts_present]

theorem state_eq_of_fields {t u : State} (hparams : t.params = u.params) (hrom : t.rom = u.rom) (hq : t.q = u.q)
    (hports : t.ports = u.ports) (hdrive : t.drive = u.drive) (hscript : t.script = u.script)
    (hdraws : t.draws = u.draws) : t = u := by
  cases t; cases u; simp_all

/-- A code presented under the same drive forgets the one before it (R20, R180). -/
theorem present_present (c d : Byte) (s : State) : present d (present c s) = present d s := by
  apply state_eq_of_fields <;> simp [present_present_q, drivenPorts_present]

end Present

/-! The invariant. -/

section Invariant

variable {s t : State}

theorem registerShowsRead_congr (hparams : t.params = s.params) (hrom : t.rom = s.rom) (hq : t.q = s.q)
    (h : s.RegisterShowsRead) : t.RegisterShowsRead := by
  simpa [State.RegisterShowsRead, hparams, hrom, hq] using h

theorem present_registerShowsRead (c : Byte) (h : s.RegisterShowsRead) : (present c s).RegisterShowsRead := by
  obtain kept | cleared | loaded := present_q_cases c s
  · exact registerShowsRead_congr (by simp) (by simp) kept h
  · exact .inl cleared
  · exact .inr ⟨(drivenPorts c s).romCode, by simp [loaded], by simp [loaded], by simp [loaded]⟩

/-- Only a power loss can leave the register with contents that no read put there (R37, R173). -/
theorem afterTxn_registerShowsRead {x : Txn} (powered : x ≠ .powerLoss) (h : s.RegisterShowsRead) :
    (afterTxn x s).RegisterShowsRead := by
  cases x with
  | code d c => exact present_registerShowsRead _ (registerShowsRead_congr rfl rfl rfl h)
  | enc o => exact registerShowsRead_congr rfl rfl rfl h
  | mb o => exact registerShowsRead_congr rfl rfl rfl h
  | powerLoss => exact absurd rfl powered

theorem step_succeeds_of_scriptSafe (h : s.ScriptSafe) : ∃ t, step s = .next t := by
  cases hs : s.script with
  | nil => exact ⟨s, step_of_nil hs⟩
  | cons x rest => exact ⟨_, step_of_cons hs (h x (by simp [hs])).1⟩

theorem afterTxn_inv {x : Txn} {rest : List Txn} (hs : s.script = x :: rest) (h : s.Inv) :
    (afterTxn x (s.setScript rest)).Inv := by
  obtain ⟨romIntact, shows, safe⟩ := h
  refine ⟨?_, ?_, ?_⟩
  · simpa [State.RomIntact] using romIntact
  · exact afterTxn_registerShowsRead (safe x (by simp [hs])).2 (registerShowsRead_congr rfl rfl rfl shows)
  · intro y hy
    simpa using safe y (by rw [hs]; exact List.mem_cons_of_mem x (by simpa using hy))

theorem step_inv (h : s.Inv) (hstep : step s = .next t) : t.Inv := by
  obtain ⟨-, rfl⟩ | ⟨x, rest, hs, -, rfl⟩ := step_cases hstep
  · exact h
  · exact afterTxn_inv hs h

theorem resetOf_inv (p : Params) : (State.resetOf p).Inv where
  romIntact := rfl
  registerShowsRead := .inl rfl
  scriptSafe := fun _ hx => absurd hx List.not_mem_nil

end Invariant

/-! Power loss. -/

/-- Without an output register a power loss has nothing to lose (R173, R181). -/
theorem powerLoss_of_absent {s : State} (h : s.params.outReg = false) : powerLoss s = s := by
  simp [powerLoss, h]

/-- A reset edge clears the register whatever it holds (R182). -/
theorem romPort_afterTxn_resetEdge {s : State} (hreg : s.params.outReg = true) (en : Bool) (c : Byte) :
    romPort (afterTxn (.edge true en c) s) = ⟨0, .ok, false⟩ := by
  rw [romPort_of_registered (by simpa using hreg), Txn.edge, afterTxn, present_q_of_rise _ _ rfl (by simpa using hreg)]
  rfl

end Sys2Proof.Machine

open Sys2Proof Sys2Proof.Machine

/-- Settles O46: a script that fits gives the step a transaction to take, and each kind of transaction but the power loss
keeps the invariant. -/
theorem everyStepKeepsTheStateSafe : Obligations.EveryStepKeepsTheStateSafe :=
  ⟨fun _ h => step_succeeds_of_scriptSafe h.scriptSafe, fun _ _ => step_inv⟩

/-- Settles O10: the fault is that of a transaction that does not fit, read off its constructors. -/
theorem stepsWithoutAnInstruction : Obligations.StepsWithoutAnInstruction := by
  intro s
  refine ⟨step_of_nil, step_ne_refused s, ?_⟩
  simp only [step_eq_fault_iff, wellFormed_eq_false_iff]
  constructor
  · rintro ⟨x, rest, hs, ⟨henc, ⟨o, rfl⟩ | ⟨d, c, rfl, hd⟩⟩ | ⟨hreg, d, c, rst, en, rfl, hclk⟩⟩
    · exact .inl ⟨henc, .inl ⟨o, rest, hs⟩⟩
    · exact .inl ⟨henc, .inr ⟨d, c, rest, hs, hd⟩⟩
    · exact .inr ⟨hreg, d, c, rest, rst, en, hs, hclk⟩
  · rintro (⟨henc, ⟨o, rest, hs⟩ | ⟨d, c, rest, hs, hd⟩⟩ | ⟨hreg, d, c, rest, rst, en, hs, hclk⟩)
    · exact ⟨_, rest, hs, .inl ⟨henc, .inl ⟨o, rfl⟩⟩⟩
    · exact ⟨_, rest, hs, .inl ⟨henc, .inr ⟨d, c, rfl, hd⟩⟩⟩
    · exact ⟨_, rest, hs, .inr ⟨hreg, d, c, rst, en, rfl, hclk⟩⟩

/-- Settles O12: every instruction presents its byte, which drives ports and at most loads the register. -/
theorem everyInstructionCompletesWithItsFrame : Obligations.EveryInstructionCompletesWithItsFrame := by
  intro i s
  refine ⟨_, exec_eq_present i s, present_params _ s, present_rom _ s, ?_, present_drive _ s, present_script _ s,
    present_draws _ s, ?_, ?_, ?_, ?_, present_q_of_quiet⟩
  · simp
  · intro hdec; simp [drivenPorts, hdec]
  · rintro (henc | henc) <;> simp [drivenPorts, henc]
  · intro hmb; simp [drivenPorts, hmb]
  · intro hrom; simp [drivenPorts, hrom]

/-- Settles O13: every output is a function of levels and a register that only their own drive changes. -/
theorem unitsNotDrivenKeepTheirOutputs : Obligations.UnitsNotDrivenKeepTheirOutputs := by
  intro i s
  exact ⟨_, exec_eq_present i s, decPort_present_undriven, encPort_present_undriven, mbPort_present_undriven,
    romPort_present_undriven, romPort_present_registered⟩

/-- Settles O14: the second code overwrites all that the first one changed, so the two runs end in one state. -/
theorem outputsDependOnlyOnTheCurrentCode : Obligations.OutputsDependOnlyOnTheCurrentCode := by
  intro i j s
  refine ⟨_, _, _, exec_eq_present i s, exec_eq_present j _, exec_eq_present j s, ?_⟩
  simp [present_present]

/-- Settles O48: the block has no write. -/
theorem parametersAndRomNeverChange : Obligations.ParametersAndRomNeverChange := by
  intro s t h
  exact ⟨step_params h, fun k => by rw [step_params h, step_rom h], step_romWf h⟩

/-- Settles O49: the outputs of DEC, ENC and MB are functions of levels that a power loss keeps, and the edge after it
resets the register. -/
theorem powerLossLeavesOnlyTheRegisterOpen : Obligations.PowerLossLeavesOnlyTheRegisterOpen := by
  intro s rest hs
  refine ⟨_, step_of_cons hs rfl, by simp, by simp, by simp [afterTxn], by simp, by simp [decPort, afterTxn],
    by simp [encPort, afterTxn], by simp [mbPort, afterTxn], ?_, ?_⟩
  · intro hreg
    rw [afterTxn, powerLoss_of_absent (by simpa using hreg)]
    rfl
  · intro en c rest' hreg hrest
    have fits : (Txn.edge true en c).wellFormed s.params = true := by
      simp [Txn.edge, Txn.wellFormed, Clk.wellFormed, Drive.none, hreg]
    exact ⟨_, step_of_cons (by simpa using hrest) (by simpa using fits),
      romPort_afterTxn_resetEdge (by simpa using hreg) en c⟩

/-- Settles O43: the registered ROM shows the register. -/
theorem registerDrivesOutputsAndResetValues : Obligations.RegisterDrivesOutputsAndResetValues :=
  ⟨fun _ => romPort_of_registered, fun _ => ⟨rfl, rfl, rfl⟩⟩

/-- Settles O45: at reset the ROM, the register and the script are at their first values. -/
theorem resetIsSafe : Obligations.ResetIsSafe := resetOf_inv
end

section
/-! PROOFS. The outputs of the units against the spec's integer formulas: the errors, DEC, ENC, MB and the lookup; and the
three element patterns. -/

namespace Sys2Proof.Machine

/-! Errors and the validity of a code. -/

theorem valid_eq_false_iff (c : Byte) : valid c = false ↔ c.extractLsb' 4 2 = 3#2 ∨ c.extractLsb' 6 2 ≠ 0#2 := by
  rw [valid, Bool.and_eq_false_iff, or_comm]
  simp

/-- The valid codes are those up to 0x2F (R62). -/
theorem valid_iff (c : Byte) : valid c = true ↔ Spec.Valid c := by
  have all : ∀ c : Byte, valid c = true ↔ c.toNat ≤ 0x2F := by decide
  exact all c

theorem mbOut_err (v : AlgVariant) (o : Orientation) : (mbOut v o).err = fieldErr o := by
  by_cases h : fieldErr o = .ok <;> simp [mbOut, h, raiseMb]

theorem decErr_eq_ok_iff (c : Byte) : decErr c = .ok ↔ valid c = true := by
  simp [decErr]

theorem decErr_eq_invalidCode_iff (c : Byte) : decErr c = .invalidCode ↔ valid c = false := by
  simp [decErr]

theorem fieldErr_eq_ok_iff (o : Orientation) : fieldErr o = .ok ↔ o.axis ≠ 3#2 := by
  simp [fieldErr]

theorem fieldErr_eq_invalidField_iff (o : Orientation) : fieldErr o = .invalidField ↔ o.axis = 3#2 := by
  simp [fieldErr]

/-- The codes with an entry, by the parameters and the code's value (R135 to R137). -/
theorem entryOf_eq_none_iff (p : Params) (c : Byte) : entryOf p c = none ↔ ¬ Spec.HasEntry p c := by
  have bit3 : ∀ b : Byte, b[3] = true ↔ b.toNat / 8 % 2 = 1 := by decide
  cases he : p.entries with
  | e48 => simp [entryOf, Spec.HasEntry, he]
  | e24 =>
    cases hr : p.rom24 with
    | compressed => simp [entryOf, Spec.HasEntry, he, hr, bit3]
    | prefixed => simp [entryOf, Spec.HasEntry, he, hr]

theorem hasEntry_iff (p : Params) (c : Byte) : Spec.HasEntry p c ↔ ∃ i, entryOf p c = some i := by
  rw [← Option.ne_none_iff_exists', ne_eq, entryOf_eq_none_iff, not_not]

/-- What a lookup can give: an invalid code, a valid code without an entry, an entry (R135 to R138). -/
theorem lookup_cases (p : Params) (m : Rom) (c : Byte) :
    (valid c = false ∧ lookup p m c = (zeroWord, .invalidCode)) ∨
      (valid c = true ∧ ¬ Spec.HasEntry p c ∧ lookup p m c = (zeroWord, .notInTable)) ∨
      ∃ i, valid c = true ∧ entryOf p c = some i ∧ lookup p m c = (romRead p m i, .ok) := by
  cases hv : valid c with
  | false => exact .inl ⟨rfl, lookup_of_invalid p m hv⟩
  | true =>
    cases he : entryOf p c with
    | none => exact .inr (.inl ⟨rfl, (entryOf_eq_none_iff p c).mp he, lookup_of_noEntry p m hv he⟩)
    | some i => exact .inr (.inr ⟨i, rfl, rfl, lookup_of_entry p m hv he⟩)

theorem lookup_err_invalidCode_iff (p : Params) (m : Rom) (c : Byte) :
    (lookup p m c).2 = .invalidCode ↔ valid c = false := by
  obtain ⟨hv, hl⟩ | ⟨hv, -, hl⟩ | ⟨i, hv, -, hl⟩ := lookup_cases p m c <;> simp [hv, hl]

theorem lookup_err_notInTable_iff (p : Params) (m : Rom) (c : Byte) :
    (lookup p m c).2 = .notInTable ↔ valid c = true ∧ ¬ Spec.HasEntry p c := by
  obtain ⟨hv, hl⟩ | ⟨hv, he, hl⟩ | ⟨i, hv, he, hl⟩ := lookup_cases p m c
  · simp [hv, hl]
  · simp [hv, he, hl]
  · simp [hl, (hasEntry_iff p c).mpr ⟨i, he⟩]

theorem lookup_err_ne_invalidField (p : Params) (m : Rom) (c : Byte) : (lookup p m c).2 ≠ .invalidField := by
  obtain ⟨-, hl⟩ | ⟨-, -, hl⟩ | ⟨i, -, -, hl⟩ := lookup_cases p m c <;> simp [hl]

/-- A 48-entry ROM has an entry for every valid code (R135). -/
theorem entries_eq_e24_of_not_hasEntry {p : Params} {c : Byte} (h : ¬ Spec.HasEntry p c) : p.entries = .e24 := by
  cases he : p.entries with
  | e24 => rfl
  | e48 => exact absurd (.inl he) h

/-! The fields of a code and the packing of fields. -/

/-- The bit slices of a code are its fields by division (R60, R61). -/
theorem fieldsOf_eq_fields (c : Byte) : fieldsOf c = Spec.fields c := by
  revert c; decide

theorem toNat_packFields (o : Orientation) :
    (packFields o).toNat = 16 * o.axis.toNat + 8 * o.flip.toNat + 4 * o.sign.toNat + o.rot.toNat := by
  obtain ⟨rot, sign, flip, axis⟩ := o
  revert rot sign flip axis
  decide

/-! The elements of a matrix, as integers and as patterns. -/

theorem tritBits_eq_ofInt (x : Trit) : tritBits x = BitVec.ofInt 2 (tritInt x) := by
  cases x <;> rfl

theorem f32_eq_spec (x : Trit) : f32 x = Spec.f32 (tritInt x) := by
  cases x <;> rfl

/-- A reader of a lane gets the element that was driven on it (R31). -/
theorem laneInt_f32 (x : Trit) : laneInt (f32 x) = some (tritInt x) := by
  cases x <;> rfl

theorem lanes4_length (order : WordOrder) (H : Mat4) : (lanes4 order H).length = 16 := by
  cases order <;> rfl

/-- Every lane of `mb_mf` shows an element of the matrix (R108). -/
theorem extract_f32s (M : Mat3) (k : Nat) (hk : k < (lanes3 M).length) :
    (f32s M).extractLsb' (32 * k) 32 = f32 (lanes3 M)[k] := by
  have hk9 : k < 9 := by simpa only [lanes3_length] using hk
  rw [f32s, extract_packLanes _ _ (by rwa [List.length_map]) (by omega), List.getElem_map]

/-- Every trit of `mb_m` shows an element of the matrix (R109). -/
theorem extract_trits_lane (M : Mat3) (k : Nat) (hk : k < (lanes3 M).length) :
    (trits M).extractLsb' (2 * k) 2 = tritBits (lanes3 M)[k] := by
  have hk9 : k < 9 := by simpa only [lanes3_length] using hk
  rw [trits, extract_packLanes _ _ (by rwa [List.length_map]) (by omega), List.getElem_map]

/-- Every lane of a ROM word shows an element of the matrix (R134). -/
theorem wordLane_wordOf (order : WordOrder) (H : Mat4) (k : Nat) (hk : k < (lanes4 order H).length) :
    wordLane (wordOf order H) k = f32 (lanes4 order H)[k] := by
  have hk16 : k < 16 := by simpa only [lanes4_length] using hk
  rw [wordLane, wordOf, extract_packLanes _ _ (by rwa [List.length_map]) (by omega), List.getElem_map]

/-- The lane of `H[r][k]` holds `H[r][k]` (R43). -/
theorem lanes4_getElem (order : WordOrder) (H : Mat4) (r k : Fin 4) (h : laneOf order r k < (lanes4 order H).length) :
    (lanes4 order H)[laneOf order r k] = H r k := by
  cases order <;> fin_cases r <;> fin_cases k <;> rfl

/-! The triple and the matrix of an orientation. -/

theorem tripleOf_axes (v : AlgVariant) (o : Orientation) (c : Fin 3) : (tripleOf v o).axes[c] = Spec.axis v o c := by
  obtain ⟨rot, sign, flip, axis⟩ := o
  cases v <;> revert rot sign flip axis c <;> decide

theorem tripleOf_signs (v : AlgVariant) (o : Orientation) (c : Fin 3) :
    signInt (tripleOf v o).signs[c] = Spec.sign o c := by
  obtain ⟨rot, sign, flip, axis⟩ := o
  cases v <;> revert rot sign flip axis c <;> decide

/-- The three axes of a valid orientation are axes, and no two are the same (R103). -/
theorem spec_axis_range (v : AlgVariant) {o : Orientation} (h : o.axis ≠ 3#2) (c : Fin 3) :
    0 ≤ Spec.axis v o c ∧ Spec.axis v o c < 3 := by
  obtain ⟨rot, sign, flip, axis⟩ := o
  cases v <;> revert rot sign flip axis c <;> decide

theorem spec_axis_injective (v : AlgVariant) {o : Orientation} (h : o.axis ≠ 3#2) :
    Function.Injective (Spec.axis v o) := by
  obtain ⟨rot, sign, flip, axis⟩ := o
  cases v <;> revert rot sign flip axis <;> decide

theorem tritInt_signTrit (x : Sign) : tritInt (signTrit x) = signInt x := by
  cases x <;> rfl

theorem signInt_eq_neg_one_iff (x : Sign) : signInt x = -1 ↔ x = .minus := by
  cases x <;> decide

/-- The machine's matrix is the spec's, element by element (R106). -/
theorem tritInt_matOf (v : AlgVariant) (o : Orientation) (r c : Fin 3) :
    tritInt (matOf (tripleOf v o) r c) = Spec.elem v o r c := by
  rw [matOf, Spec.elem, tripleOf_axes]
  split
  · rw [tritInt_signTrit, tripleOf_signs]
  · rfl

/-- The homogeneous extension of a matrix that agrees with the spec's (R115). -/
theorem tritInt_homog (v : AlgVariant) (o : Orientation) (r k : Fin 4) :
    tritInt (homog (matOf (tripleOf v o)) r k) = Spec.elem4 v o r k := by
  by_cases inner : r.val < 3 ∧ k.val < 3
  · simp only [homog, Spec.elem4, inner, and_self, dif_pos, tritInt_matOf]
  · have corner : r = k ↔ r.val = 3 ∧ k.val = 3 := by omega
    simp only [homog, Spec.elem4, dif_neg inner, corner]
    split <;> rfl

/-! What MB drives. -/

theorem extract_pairAxis (t : Triple) (c : Fin 3) :
    (pairAxis t).extractLsb' (2 * c.val) 2 = BitVec.ofInt 2 t.axes[c] := by
  have all : ∀ (x : Fin 3 → BitVec 2) (c : Fin 3), (x 2 ++ x 1 ++ x 0).extractLsb' (2 * c.val) 2 = x c := by decide
  exact all (fun c => BitVec.ofInt 2 t.axes[c]) c

theorem getLsbD_pairNeg (t : Triple) (c : Fin 3) : (pairNeg t).getLsbD c.val = (t.signs[c] == .minus) := by
  have all : ∀ (x : Fin 3 → Bool) (c : Fin 3),
      (BitVec.ofBool (x 2) ++ BitVec.ofBool (x 1) ++ BitVec.ofBool (x 0)).getLsbD c.val = x c := by decide
  exact all (fun c => t.signs[c] == .minus) c

theorem toNat_ofInt_two {x : Int} (h0 : 0 ≤ x) (h3 : x < 3) : ((BitVec.ofInt 2 x).toNat : Int) = x := by
  rw [BitVec.toNat_ofInt]
  omega

theorem mbOut_of_valid (v : AlgVariant) {o : Orientation} (h : o.axis ≠ 3#2) :
    mbOut v o = { pairAxis := pairAxis (tripleOf v o), pairNeg := pairNeg (tripleOf v o),
                  m := trits (matOf (tripleOf v o)), mf := f32s (matOf (tripleOf v o)), err := .ok } := by
  simp [mbOut, fieldErr_eq_ok h]

theorem mbOut_of_invalid (v : AlgVariant) {o : Orientation} (h : o.axis = 3#2) :
    mbOut v o = { pairAxis := 0, pairNeg := 0, m := 0, mf := 0, err := .invalidField } := by
  simp [mbOut, fieldErr, h, raiseMb]

/-- MB drives the spec's triple and matrix, or the error and zeros (R100, R106 to R109). -/
theorem mbShows_mbOut (v : AlgVariant) (o : Orientation) : Spec.MbShows v o (mbOut v o) := by
  have axis3 : o.axis = 3#2 ↔ o.axis.toNat = 3 := by rw [← BitVec.toNat_inj]; rfl
  refine ⟨fun h3 => mbOut_of_invalid v (axis3.mpr h3), fun h3 => ?_⟩
  have haxis : o.axis ≠ 3#2 := mt axis3.mp h3
  have pair : ∀ c : Fin 3, (((pairAxis (tripleOf v o)).extractLsb' (2 * c.val) 2).toNat : Int) = Spec.axis v o c := by
    intro c
    obtain ⟨h0, h3⟩ := spec_axis_range v haxis c
    rw [extract_pairAxis, tripleOf_axes, toNat_ofInt_two h0 h3]
  rw [mbOut_of_valid v haxis]
  refine ⟨rfl, pair, ?distinct, ?neg, ?m, ?mf⟩
  case distinct =>
    intro c c' same
    apply spec_axis_injective v haxis
    rw [← pair c, ← pair c', same]
  case neg =>
    intro c
    rw [getLsbD_pairNeg, beq_iff_eq, ← tripleOf_signs v o c, signInt_eq_neg_one_iff]
  case m =>
    intro r c
    rw [extract_trits, tritBits_eq_ofInt, tritInt_matOf]
  case mf =>
    intro r c
    have hk : 3 * c.val + r.val < (lanes3 (matOf (tripleOf v o))).length := by rw [lanes3_length]; omega
    rw [mfLane, extract_f32s _ _ hk, lanes3_getElem, f32_eq_spec, tritInt_matOf]

/-! What the ROM looks up. -/

/-- The entry a valid code reads is the entry built for that code (R131 to R133, R135 to R137). -/
theorem entryCode_of_entryOf {p : Params} {c : Byte} {i : Nat} (hv : valid c = true) (he : entryOf p c = some i) :
    entryCode p i = c := by
  have compressed : ∀ c : Byte, valid c = true → c.getLsbD 3 = false → code24 (idx24 c) = c := by decide
  unfold entryOf at he
  split at he
  case h_1 h48 => cases he; simp [entryCode, h48]
  case h_2 h24 hcomp =>
    split at he
    · cases he
    · cases he
      simpa [entryCode, h24, hcomp] using compressed c hv (Bool.eq_false_iff.mpr ‹_›)
  case h_3 h24 hpre =>
    split at he
    · cases he
    · cases he; simp [entryCode, h24, hpre]

/-- Entry `i` holds the homogeneous matrix of its code, lane by lane (R134). -/
theorem wordShows_romContents (p : Params) (i : Nat) : Spec.WordShows p (entryCode p i) (romContents p i) := by
  intro r k
  have hk : laneOf p.order r k < (lanes4 p.order (homog (entryMat p i))).length := by
    rw [lanes4_length]; cases p.order <;> simp only [laneOf] <;> omega
  rw [romContents, wordLane_wordOf _ _ _ hk, lanes4_getElem, f32_eq_spec, entryMat, tritInt_homog, fieldsOf_eq_fields]

/-- An intact ROM looks up what the spec says (R135 to R138). -/
theorem lookupShows_lookup (p : Params) (c : Byte) : Spec.LookupShows p c (lookup p [] c).1 (lookup p [] c).2 := by
  rw [Spec.LookupShows, ← valid_iff]
  obtain ⟨hv, hl⟩ | ⟨hv, he, hl⟩ | ⟨i, hv, he, hl⟩ := lookup_cases p [] c
  · simp [hv, hl, zeroWord]
  · simp [hv, he, hl, zeroWord]
  · have hword := wordShows_romContents p i
    rw [entryCode_of_entryOf hv he] at hword
    simp [hv, hl, (hasEntry_iff p c).mpr ⟨i, he⟩, hword]

/-! The three element patterns. -/

/-- Every lane of the word is the pattern of 0, +1 or -1 (R31). -/
def LanesDriven (w : Word) : Prop := ∀ k, k < 16 → (laneInt (wordLane w k)).isSome = true

theorem lanesDriven_zero : LanesDriven 0 := by
  intro k _
  simp [wordLane, laneInt]

theorem lanesDriven_romContents (p : Params) (i : Nat) : LanesDriven (romContents p i) := by
  intro k hk
  rw [romContents, wordLane_wordOf _ _ _ (by rwa [lanes4_length]), laneInt_f32]
  rfl

theorem lanesDriven_lookup (p : Params) (c : Byte) : LanesDriven (lookup p [] c).1 := by
  obtain ⟨-, hl⟩ | ⟨-, -, hl⟩ | ⟨i, -, -, hl⟩ := lookup_cases p [] c <;> rw [hl]
  · exact lanesDriven_zero
  · exact lanesDriven_zero
  · exact lanesDriven_romContents p i

/-- In a safe state the ROM shows the register's zero word or the word of a lookup (R34, R138, R139). -/
theorem lanesDriven_romPort {s : State} (h : s.Inv) : LanesDriven (romPort s).word := by
  have hrom : s.rom = [] := h.romIntact
  cases hreg : s.params.outReg with
  | false =>
    rw [romPort_of_combinational hreg, romLookup, hrom]
    exact lanesDriven_lookup s.params _
  | true =>
    rw [romPort_of_registered hreg]
    obtain hreset | ⟨c, hword, -, -⟩ := h.registerShowsRead
    · rw [hreset]; exact lanesDriven_zero
    · rw [hword, hrom]; exact lanesDriven_lookup s.params c

theorem mbOut_patterns (v : AlgVariant) (o : Orientation) {k : Nat} (hk : k < 9) :
    (laneInt (mfLane (mbOut v o) k)).isSome = true ∧ (mbOut v o).m.extractLsb' (2 * k) 2 ≠ 0b10#2 := by
  have tritBits_ne : ∀ x : Trit, tritBits x ≠ 0b10#2 := by intro x; cases x <;> decide
  by_cases h3 : o.axis = 3#2
  · simp [mbOut_of_invalid v h3, mfLane, laneInt]
  · rw [mbOut_of_valid v h3, mfLane, extract_f32s _ _ (by rwa [lanes3_length]), laneInt_f32,
      extract_trits_lane _ _ (by rwa [lanes3_length])]
    exact ⟨rfl, tritBits_ne _⟩

end Sys2Proof.Machine

open Sys2Proof Sys2Proof.Machine

/-- Settles O41: a safe ROM shows zeros or the lanes of an entry, and MB zeros or the elements of its matrix. -/
theorem onlyTheThreeElementPatternsAreDriven : Obligations.OnlyTheThreeElementPatternsAreDriven :=
  ⟨fun _ h => lanesDriven_romPort h, fun s _ hk => mbOut_patterns s.params.alg s.ports.mb hk⟩

/-- Settles O44: every combinational output is the spec's formula of its inputs, which the reset state instantiates. -/
theorem resetStateOfEveryOutput : Obligations.ResetStateOfEveryOutput := by
  refine ⟨fun p => ⟨rfl, rfl, fun i => ⟨rfl, rfl⟩, rfl, fun hreg => romPort_of_registered hreg⟩, ⟨.e48, rfl⟩,
    fun s => ⟨fieldsOf_eq_fields _, ?decOk, ?decInvalid, fun henc => ?enc, mbShows_mbOut _ _, fun hreg hintact => ?rom⟩⟩
  case decOk => exact (decErr_eq_ok_iff _).trans (valid_iff _)
  case decInvalid => rw [← valid_iff, Bool.not_eq_true]; exact decErr_eq_invalidCode_iff _
  case enc =>
    exact ⟨encOut s.ports.enc, by simp [encPort, henc], toNat_packFields _, fieldErr_eq_ok_iff _,
      fieldErr_eq_invalidField_iff _⟩
  case rom =>
    rw [romPort_of_combinational hreg, romLookup, hintact]
    exact ⟨rfl, lookupShows_lookup _ _⟩

/-- Settles O7: each unit's `err` is one comparison, and a lookup's errors are its three cases. -/
theorem errorPatterns : Obligations.ErrorPatterns := by
  refine ⟨rfl, rfl, rfl, rfl, fun _ => rfl, mbOut_err, fun c => ?dec, fun p m c => ⟨?invalidCode,
    lookup_err_notInTable_iff p m c, fun h => ?only24, lookup_err_ne_invalidField p m c⟩⟩
  case dec =>
    simp only [← valid_eq_false_iff, decOut, decErr]
    cases valid c <;> rfl
  case invalidCode => rw [lookup_err_invalidCode_iff, valid_eq_false_iff]
  case only24 => exact entries_eq_e24_of_not_hasEntry ((lookup_err_notInTable_iff p m c).mp h).2
end

section
/-! PROOFS. The serialisation of a word: its bytes are the slices at bits [8b+7 : 8b], so a 32-bit lane is the
little-endian value of its four bytes (R44). -/

namespace Sys2Proof.Machine

theorem length_serialise {n : Nat} (w : BitVec n) : (serialise w).length = n / 8 := by
  rw [serialise, List.length_map, List.length_range]

theorem serialise_getElem? {n b : Nat} (w : BitVec n) (hb : b < n / 8) :
    (serialise w)[b]? = some (w.extractLsb' (8 * b) 8) := by
  rw [serialise, List.getElem?_map, List.getElem?_range hb, Option.map_some]

/-- Byte `j` of lane `k` is byte `j` of the vector shifted down to that lane. -/
theorem toNat_byte_of_lane {n : Nat} (w : BitVec n) (k j : Nat) :
    (w.extractLsb' (8 * (4 * k + j)) 8).toNat = w.toNat / 2 ^ (32 * k) / 2 ^ (8 * j) % 2 ^ 8 := by
  have hpos : 8 * (4 * k + j) = 32 * k + 8 * j := by ring
  rw [BitVec.extractLsb'_toNat, Nat.shiftRight_eq_div_pow, hpos, pow_add, Nat.div_div_eq_div_mul]

/-- With `v` the vector shifted down to the lane, both sides are `v % 2 ^ 32`, the right one written in base `2 ^ 8`. -/
theorem toNat_lane_eq_bytes {n : Nat} (w : BitVec n) (k : Nat) :
    (w.extractLsb' (32 * k) 32).toNat = (w.extractLsb' (8 * (4 * k)) 8).toNat +
      2 ^ 8 * (w.extractLsb' (8 * (4 * k + 1)) 8).toNat + 2 ^ 16 * (w.extractLsb' (8 * (4 * k + 2)) 8).toNat +
      2 ^ 24 * (w.extractLsb' (8 * (4 * k + 3)) 8).toNat := by
  have byte0 := toNat_byte_of_lane w k 0
  rw [Nat.add_zero] at byte0
  rw [BitVec.extractLsb'_toNat, Nat.shiftRight_eq_div_pow, byte0, toNat_byte_of_lane w k 1,
    toNat_byte_of_lane w k 2, toNat_byte_of_lane w k 3]
  omega

/-- The four bytes at `4k` are in the serialisation, and their little-endian value is lane `k`. -/
theorem serialise_lane_littleEndian {n k : Nat} (w : BitVec n) (hk : 4 * k + 3 < n / 8) :
    ∃ b0 b1 b2 b3, (serialise w)[4 * k]? = some b0 ∧ (serialise w)[4 * k + 1]? = some b1 ∧
      (serialise w)[4 * k + 2]? = some b2 ∧ (serialise w)[4 * k + 3]? = some b3 ∧
      (w.extractLsb' (32 * k) 32).toNat =
        b0.toNat + 2 ^ 8 * b1.toNat + 2 ^ 16 * b2.toNat + 2 ^ 24 * b3.toNat :=
  ⟨_, _, _, _, serialise_getElem? w (by omega), serialise_getElem? w (by omega), serialise_getElem? w (by omega),
    serialise_getElem? w hk, toNat_lane_eq_bytes w k⟩

end Sys2Proof.Machine

open Sys2Proof Sys2Proof.Machine

/-- Settles O35: a ROM word is the case of 64 bytes and 16 lanes, `mb_mf` that of 36 bytes and 9 lanes. -/
theorem serialisedLanesAreLittleEndian : Obligations.SerialisedLanesAreLittleEndian :=
  ⟨fun w => ⟨length_serialise w, fun _ hb => serialise_getElem? w hb,
      fun _ hk => serialise_lane_littleEndian w (by omega)⟩,
    fun x => ⟨length_serialise x.mf, fun _ hb => serialise_getElem? x.mf hb,
      fun _ hk => serialise_lane_littleEndian x.mf (by omega)⟩⟩
end

section
/-! PROOFS. The encoding: decode and encode are inverse, the bytes of each reserved class, the fields of a code and their
packing, the 24-entry index; and what a transaction with a code does, for the instruction of its byte. -/

namespace Sys2Proof

/-! Decode and encode. -/

theorem decodeByte_encodeByte (i : Instr) : decodeByte (encodeByte i) = i := by
  cases i with
  | rsvAxis3 flip sign rot => exact Laws.RoundTrip.rsvAxis3 flip sign rot
  | rsvHiB6 axis flip sign rot => exact Laws.RoundTrip.rsvHiB6 axis flip sign rot
  | rsvHiB7 h axis flip sign rot => exact Laws.RoundTrip.rsvHiB7 h axis flip sign rot
  | _ => rfl

/-- The valid rows stand in the order of their codes (R61, R68). -/
theorem encodeByte_validRows : ∀ c (h : c < validRows.length), encodeByte validRows[c] = BitVec.ofNat 8 c := by decide

section ReservedClasses

variable (h : BitVec 1) (axis : BitVec 2) (flip sign : BitVec 1) (rot : BitVec 2)

theorem toNat_encodeByte_rsvAxis3 :
    (encodeByte (.rsvAxis3 flip sign rot)).toNat = 0x30 + 8 * flip.toNat + 4 * sign.toNat + rot.toNat := by
  revert flip sign rot; decide

theorem toNat_encodeByte_rsvHiB6 :
    (encodeByte (.rsvHiB6 axis flip sign rot)).toNat =
      0x40 + 16 * axis.toNat + 8 * flip.toNat + 4 * sign.toNat + rot.toNat := by
  revert axis flip sign rot; decide

theorem toNat_encodeByte_rsvHiB7 :
    (encodeByte (.rsvHiB7 h axis flip sign rot)).toNat =
      0x80 + 64 * h.toNat + 16 * axis.toNat + 8 * flip.toNat + 4 * sign.toNat + rot.toNat := by
  revert h axis flip sign rot; decide

end ReservedClasses

/-- A byte of the range is rebuilt from its own slices (R63). -/
theorem exists_encodeByte_rsvAxis3_iff (b : Byte) :
    (∃ f g r, encodeByte (.rsvAxis3 f g r) = b) ↔ 0x30 ≤ b.toNat ∧ b.toNat ≤ 0x3F := by
  constructor
  · rintro ⟨f, g, r, rfl⟩
    rw [toNat_encodeByte_rsvAxis3]
    omega
  · rintro ⟨lo, hi⟩
    refine ⟨b.extractLsb' 3 1, b.extractLsb' 2 1, b.extractLsb' 0 2, BitVec.eq_of_toNat_eq ?_⟩
    simp only [toNat_encodeByte_rsvAxis3, BitVec.extractLsb'_toNat, Nat.shiftRight_eq_div_pow]
    omega

/-- As for RSV_AXIS3, with the axis bits left open (R64). -/
theorem exists_encodeByte_rsvHiB6_iff (b : Byte) :
    (∃ a f g r, encodeByte (.rsvHiB6 a f g r) = b) ↔ 0x40 ≤ b.toNat ∧ b.toNat ≤ 0x7F := by
  constructor
  · rintro ⟨a, f, g, r, rfl⟩
    rw [toNat_encodeByte_rsvHiB6]
    omega
  · rintro ⟨lo, hi⟩
    refine ⟨b.extractLsb' 4 2, b.extractLsb' 3 1, b.extractLsb' 2 1, b.extractLsb' 0 2, BitVec.eq_of_toNat_eq ?_⟩
    simp only [toNat_encodeByte_rsvHiB6, BitVec.extractLsb'_toNat, Nat.shiftRight_eq_div_pow]
    omega

/-- As for RSV_AXIS3, with the axis bits and bit 6 left open (R64). -/
theorem exists_encodeByte_rsvHiB7_iff (b : Byte) :
    (∃ h a f g r, encodeByte (.rsvHiB7 h a f g r) = b) ↔ 0x80 ≤ b.toNat := by
  constructor
  · rintro ⟨h, a, f, g, r, rfl⟩
    rw [toNat_encodeByte_rsvHiB7]
    omega
  · intro lo
    refine ⟨b.extractLsb' 6 1, b.extractLsb' 4 2, b.extractLsb' 3 1, b.extractLsb' 2 1, b.extractLsb' 0 2,
      BitVec.eq_of_toNat_eq ?_⟩
    simp only [toNat_encodeByte_rsvHiB7, BitVec.extractLsb'_toNat, Nat.shiftRight_eq_div_pow]
    omega

/-- The valid rows and the three reserved classes cover every byte (R68). -/
theorem encodeByte_surjective : Function.Surjective encodeByte := by
  intro b
  by_cases small : b.toNat < validRows.length
  · exact ⟨_, (encodeByte_validRows b.toNat small).trans (BitVec.ofNat_toNat 8 b)⟩
  have lo : 0x30 ≤ b.toNat := not_lt.mp small
  by_cases axis3 : b.toNat ≤ 0x3F
  · obtain ⟨f, g, r, e⟩ := (exists_encodeByte_rsvAxis3_iff b).mpr ⟨lo, axis3⟩
    exact ⟨_, e⟩
  by_cases bit7 : 0x80 ≤ b.toNat
  · obtain ⟨h, a, f, g, r, e⟩ := (exists_encodeByte_rsvHiB7_iff b).mpr bit7
    exact ⟨_, e⟩
  · obtain ⟨a, f, g, r, e⟩ := (exists_encodeByte_rsvHiB6_iff b).mpr (by omega)
    exact ⟨_, e⟩

theorem encodeByte_decodeByte (b : Byte) : encodeByte (decodeByte b) = b := by
  obtain ⟨i, rfl⟩ := encodeByte_surjective b
  rw [decodeByte_encodeByte]

theorem decodeByte_eq_iff {b : Byte} {i : Instr} : decodeByte b = i ↔ encodeByte i = b := by
  constructor
  · rintro rfl; exact encodeByte_decodeByte b
  · rintro rfl; exact decodeByte_encodeByte i

theorem encode_eq_iff {i : Instr} {c : Byte} : encode i = [c] ↔ encodeByte i = c := by
  simp [encode]

/-- A code is one byte, so decoding takes the first byte and leaves the others (R65). -/
theorem decode_cons (b : Byte) (rest : List Byte) : decode (b :: rest) = .ok (decodeByte b, rest) := rfl

namespace Machine

/-! The fields of a code, and the code of four fields. -/

theorem extract_high_eq_zero_iff (c : Byte) : c.extractLsb' 6 2 = 0#2 ↔ c.toNat < 64 := by
  rw [← BitVec.toNat_inj, BitVec.extractLsb'_toNat, Nat.shiftRight_eq_div_pow, BitVec.toNat_ofNat]
  omega

theorem high_eq_zero_of_valid {c : Byte} (h : valid c = true) : c.extractLsb' 6 2 = 0#2 :=
  (extract_high_eq_zero_iff c).mpr (((valid_iff c).mp h).trans_lt (by decide))

theorem fieldsOf_packFields (o : Orientation) : fieldsOf (packFields o) = o := by
  obtain ⟨rot, sign, flip, axis⟩ := o
  revert rot sign flip axis
  decide

/-- Bits 7:6 are the only ones that no field keeps (R60, R83). -/
theorem packFields_fieldsOf {c : Byte} (h : c.extractLsb' 6 2 = 0#2) : packFields (fieldsOf c) = c := by
  rw [extract_high_eq_zero_iff] at h
  apply BitVec.eq_of_toNat_eq
  simp only [toNat_packFields, fieldsOf, BitVec.extractLsb'_toNat, Nat.shiftRight_eq_div_pow]
  omega

theorem toNat_axis_ne_three {o : Orientation} (h : o.axis ≠ 3#2) : o.axis.toNat ≠ 3 :=
  fun h3 => h (BitVec.eq_of_toNat_eq h3)

theorem valid_packFields {o : Orientation} (h : o.axis ≠ 3#2) : valid (packFields o) = true := by
  have haxis := toNat_axis_ne_three h
  rw [valid_iff, Spec.Valid, toNat_packFields]
  omega

theorem existsUnique_valid_code {o : Orientation} (h : o.axis ≠ 3#2) : ∃! c : Byte, valid c = true ∧ fieldsOf c = o := by
  refine ⟨packFields o, ⟨valid_packFields h, fieldsOf_packFields o⟩, ?_⟩
  rintro c ⟨hv, rfl⟩
  exact (packFields_fieldsOf (high_eq_zero_of_valid hv)).symm

theorem toNat_le_23_iff (c : Byte) : c.toNat ≤ 23 ↔
    c.extractLsb' 6 2 = 0#2 ∧ ((fieldsOf c).axis = 0#2 ∨ (fieldsOf c).axis = 1#2 ∧ (fieldsOf c).flip = 0#1) := by
  rw [extract_high_eq_zero_iff, fieldsOf_eq_fields]
  simp only [Spec.fields, ← BitVec.toNat_inj, BitVec.toNat_ofNat]
  omega

/-! The 24-entry index (R66). -/

theorem toNat_idx24 (c : Byte) :
    (idx24 c).toNat = 8 * (fieldsOf c).axis.toNat + 4 * (fieldsOf c).sign.toNat + (fieldsOf c).rot.toNat := by
  revert c; decide

theorem idx24_lt {c : Byte} (h : valid c = true) : (idx24 c).toNat < 24 := by
  have haxis := toNat_axis_ne_three (axis_ne_three_of_valid h)
  rw [toNat_idx24]
  omega

theorem idx24_code24 (i : BitVec 5) : idx24 (code24 i) = i := by
  revert i; decide

theorem code24_flip (i : BitVec 5) : (fieldsOf (code24 i)).flip = 0#1 := by
  revert i; decide

theorem toNat_code24 (i : BitVec 5) : (code24 i).toNat = 16 * (i.toNat / 8) + i.toNat % 8 := by
  revert i; decide

theorem valid_code24 {i : BitVec 5} (h : i.toNat < 24) : valid (code24 i) = true := by
  rw [valid_iff, Spec.Valid, toNat_code24]
  omega

/-- The index drops bit 3, which is `flip`, and bits 7:6. -/
theorem code24_idx24 {c : Byte} (hv : valid c = true) (hf : (fieldsOf c).flip = 0#1) : code24 (idx24 c) = c := by
  have value := toNat_packFields (fieldsOf c)
  rw [packFields_fieldsOf (high_eq_zero_of_valid hv), hf] at value
  apply BitVec.eq_of_toNat_eq
  rw [toNat_code24, toNat_idx24, value, BitVec.toNat_ofNat]
  omega

theorem existsUnique_orientation_of_index {i : BitVec 5} (h : i.toNat < 24) :
    ∃! o : Orientation, o.axis ≠ 3#2 ∧ o.flip = 0#1 ∧ idx24 (packFields o) = i := by
  have hv := valid_code24 h
  refine ⟨fieldsOf (code24 i), ⟨axis_ne_three_of_valid hv, code24_flip i, ?_⟩, ?_⟩
  · rw [packFields_fieldsOf (high_eq_zero_of_valid hv), idx24_code24]
  · rintro o ⟨haxis, hflip, rfl⟩
    rw [code24_idx24 (valid_packFields haxis) (by rwa [fieldsOf_packFields]), fieldsOf_packFields]

/-! An invalid code at DEC and at the ROM. -/

section ReservedClasses

variable (h : BitVec 1) (a : BitVec 2) (f g : BitVec 1) (r : BitVec 2)

theorem valid_encodeByte_rsvAxis3 : valid (encodeByte (.rsvAxis3 f g r)) = false := by
  rw [← Bool.not_eq_true, valid_iff, Spec.Valid, toNat_encodeByte_rsvAxis3]
  omega

theorem valid_encodeByte_rsvHiB6 : valid (encodeByte (.rsvHiB6 a f g r)) = false := by
  rw [← Bool.not_eq_true, valid_iff, Spec.Valid, toNat_encodeByte_rsvHiB6]
  omega

theorem valid_encodeByte_rsvHiB7 : valid (encodeByte (.rsvHiB7 h a f g r)) = false := by
  rw [← Bool.not_eq_true, valid_iff, Spec.Valid, toNat_encodeByte_rsvHiB7]
  omega

theorem fieldsOf_encodeByte_rsvAxis3 : fieldsOf (encodeByte (.rsvAxis3 f g r)) = ⟨r, g, f, 3⟩ := by
  revert f g r; decide

theorem fieldsOf_encodeByte_rsvHiB6 : fieldsOf (encodeByte (.rsvHiB6 a f g r)) = ⟨r, g, f, a⟩ := by
  revert a f g r; decide

theorem fieldsOf_encodeByte_rsvHiB7 : fieldsOf (encodeByte (.rsvHiB7 h a f g r)) = ⟨r, g, f, a⟩ := by
  revert h a f g r; decide

end ReservedClasses

/-- Whatever its class, an instruction with an invalid code shows its raw fields and InvalidCode twice (R82, R138). -/
theorem exec_invalid {i : Instr} {o : Orientation} {s : State} (hv : valid (encodeByte i) = false)
    (hfields : fieldsOf (encodeByte i) = o) (hdec : s.drive.toDec = true) (hrom : s.drive.toRom = true)
    (hreg : s.params.outReg = false) :
    ∃ t, exec i s = .next t ∧ decPort t = ⟨o, .invalidCode⟩ ∧ romPort t = ⟨0, .invalidCode, true⟩ := by
  refine ⟨_, exec_eq_present i s, ?_, ?_⟩
  · rw [decPort_present hdec, decOut, hfields, (decErr_eq_invalidCode_iff _).mpr hv]
  · rw [romPort_present hreg hrom, lookup_of_invalid _ _ hv, zeroWord]

/-! A transaction with a code is the instruction of its byte. -/

theorem step_of_code {s : State} {d : Drive} {i : Instr} {c : Byte} {rest : List Txn} (hc : encode i = [c])
    (hs : s.script = .code d c :: rest) (fits : (Txn.code d c).wellFormed s.params = true) :
    step s = exec i { s with script := rest, drive := d } := by
  rw [step_of_cons hs fits, exec_eq_present, afterTxn, encodeByte_decodeByte, encode_eq_iff.mp hc]
  rfl

theorem wellFormed_driveAll (p : Params) (c : Byte) : (Txn.code (driveAll p) c).wellFormed p = true := by
  cases hreg : p.outReg <;> simp [Txn.wellFormed, driveAll, Clk.wellFormed, hreg]

theorem withFetchWord_script (s : State) (c : Byte) :
    (s.withFetchWord 8 c.toNat).script = .code (driveAll s.params) c :: s.script := by
  rw [State.withFetchWord, placeCode, State.setScript_script, Nat.mod_eq_of_lt c.isLt, BitVec.ofNat_toNat,
    BitVec.setWidth_eq]

theorem decodeTableWord_byte (c : Byte) : decodeTableWord 8 c.toNat = some (decodeByte c) := by
  simp [decodeTableWord, bytesOf, decode_cons]

end Machine

end Sys2Proof

open Sys2Proof Sys2Proof.Machine

/-- Settles O2: decode inverts encode on each row, and encode reaches every byte, so decode has no other inverse. -/
theorem decodeOfEncodeIsIdentity : Obligations.DecodeOfEncodeIsIdentity := by
  refine ⟨fun i rest => ?_,
    fun b rest => ⟨decodeByte b, decode_cons b rest, encode_eq_iff.mpr (encodeByte_decodeByte b)⟩⟩
  rw [encode, List.singleton_append, decode_cons, decodeByte_encodeByte]

/-- Settles O3: the row of a byte is the one it decodes to, and the reserved rows encode to exactly their ranges. -/
theorem everyByteHasExactlyOneRow : Obligations.EveryByteHasExactlyOneRow := by
  intro b
  simp only [encode_eq_iff, decodeByte_eq_iff]
  exact ⟨⟨decodeByte b, encodeByte_decodeByte b, fun _ hi => (decodeByte_eq_iff.mpr hi).symm⟩,
    exists_encodeByte_rsvAxis3_iff b, exists_encodeByte_rsvHiB6_iff b, exists_encodeByte_rsvHiB7_iff b⟩

/-- Settles O5: packing and reading the fields are inverse between the codes and the orientations that are valid. -/
theorem validCodesAreValidOrientations : Obligations.ValidCodesAreValidOrientations :=
  ⟨fun c => ⟨by simp [valid], valid_iff c, axis_ne_three_of_valid⟩, fun _ => existsUnique_valid_code⟩

/-- Settles O6: `code24` and `idx24` are inverse between the indices below 24 and the valid codes with flip = 0. -/
theorem compressedIndexFormat : Obligations.CompressedIndexFormat :=
  ⟨fun c hv hf => ⟨toNat_idx24 c, idx24_lt hv, code24_idx24 hv hf⟩,
    fun i hi => ⟨valid_code24 hi, code24_flip i, idx24_code24 i, existsUnique_orientation_of_index hi⟩⟩

/-- Settles O21: DEC drives the fields of the code, valid or not, and MB shows the matrix of any fields. -/
theorem chainBuildsTheMatrixOfTheCode : Obligations.ChainBuildsTheMatrixOfTheCode := by
  intro i c s hc hdec hmb
  refine ⟨_, exec_eq_present i s, ?_⟩
  rw [encode_eq_iff.mp hc, mbPort_present hdec hmb, fieldsOf_eq_fields]
  exact mbShows_mbOut _ _

/-- Settles O38: every byte of the three classes is past 0x2F, and its slices are the operands. -/
theorem reservedClassesReportInvalidCode : Obligations.ReservedClassesReportInvalidCode := by
  intro h a f g r s hdec hrom hreg
  exact ⟨exec_invalid (valid_encodeByte_rsvAxis3 f g r) (fieldsOf_encodeByte_rsvAxis3 f g r) hdec hrom hreg,
    exec_invalid (valid_encodeByte_rsvHiB6 a f g r) (fieldsOf_encodeByte_rsvHiB6 a f g r) hdec hrom hreg,
    exec_invalid (valid_encodeByte_rsvHiB7 h a f g r) (fieldsOf_encodeByte_rsvHiB7 h a f g r) hdec hrom hreg⟩

/-- Settles O1: each byte is looked up in the table of valid rows, or sliced into the operands of its reserved class. -/
theorem codeWordsDecodeToTheirRows : Obligations.CodeWordsDecodeToTheirRows :=
  ⟨rfl, rfl, rfl, rfl, rfl, rfl, rfl, rfl, rfl, rfl⟩

/-- Settles O4: a code with bits 7:6 = 0 is the packing of its own fields. -/
theorem codeValueOfFields : Obligations.CodeValueOfFields := by
  refine fun c => ⟨fun h => ?_, valid_iff c, toNat_le_23_iff c, toNat_packFields⟩
  rw [← toNat_packFields, packFields_fieldsOf h]

/-- Settles O8: the transaction presents the byte of the instruction, as the instruction itself does. -/
theorem stepRunsTheDecodedInstruction : Obligations.StepRunsTheDecodedInstruction :=
  fun _ _ _ _ _ => step_of_code

/-- Settles O9: what is placed is one transaction with a code, which fits because it drives only what is present. -/
theorem placedCodeIsTheNextInstruction : Obligations.PlacedCodeIsTheNextInstruction := by
  intro s i c hc
  refine ⟨?_, step_of_code hc (withFetchWord_script s c) (wellFormed_driveAll s.params c)⟩
  rw [decodeTableWord_byte, decodeByte_eq_iff.mpr (encode_eq_iff.mp hc)]

/-- Settles O11: the line drives DEC, holds every other level and has no clock edge. -/
theorem scriptLineDecSetsOnlyDec : Obligations.ScriptLineDecSetsOnlyDec := by
  intro s c rest hs
  refine ⟨_, step_of_cons hs rfl, ?dec, encPort_present_undriven rfl, mbPort_present_undriven rfl,
    romPort_present_undriven rfl rfl, afterTxn_script _ _, present_q_of_hold _ _ rfl, afterTxn_rom _ _⟩
  case dec => rw [Txn.dec, afterTxn, decPort_present rfl, encodeByte_decodeByte]
end

section
/-! PROOFS. Runs of any length from a safe state; DEC and ENC on every code and every orientation, and their round trips;
and what a consumer may take from each unit. -/

namespace Sys2Proof.Machine

/-! The script along a run. -/

theorem step_script {s t : State} (h : step s = .next t) : t.script = s.script.tail := by
  obtain ⟨hs, rfl⟩ | ⟨x, rest, hs, -, rfl⟩ := step_cases h <;> simp [hs]

/-! The packing of fields, for every orientation and every code. -/

theorem valid_iff_slices (c : Byte) : valid c = true ↔ c.extractLsb' 6 2 = 0#2 ∧ c.extractLsb' 4 2 ≠ 3#2 := by
  simp [valid]

theorem packFields_high (o : Orientation) : (packFields o).extractLsb' 6 2 = 0#2 := by
  rw [extract_high_eq_zero_iff, toNat_packFields]
  omega

theorem valid_packFields_iff (o : Orientation) : valid (packFields o) = true ↔ o.axis ≠ 3#2 := by
  refine ⟨fun h => ?_, valid_packFields⟩
  simpa [fieldsOf_packFields] using axis_ne_three_of_valid h

/-- ENC's code of an invalid orientation is reserved, so DEC reports it (R84). -/
theorem valid_packFields_of_axis_three {o : Orientation} (h : o.axis = 3#2) : valid (packFields o) = false := by
  simp [← Bool.not_eq_true, valid_packFields_iff, h]

/-- Of a code, valid or not, the fields keep the low six bits (R86). -/
theorem packFields_fieldsOf_eq_low (c : Byte) : packFields (fieldsOf c) = (c.extractLsb' 0 6).zeroExtend 8 := by
  apply BitVec.eq_of_toNat_eq
  simp only [toNat_packFields, fieldsOf, BitVec.toNat_setWidth, BitVec.extractLsb'_toNat, Nat.shiftRight_eq_div_pow]
  omega

/-! ENC's port, driven directly or by DEC; and the lookup of a code with an entry. -/

theorem encPort_afterTxn_enc {s : State} (henc : s.params.hasEnc = true) (o : Orientation) :
    encPort (afterTxn (.enc o) s) = some (encOut o) := by
  simp [encPort, afterTxn, henc]

/-- DEC's fields reach ENC in the same transaction (R86). -/
theorem encPort_present {c : Byte} {s : State} (henc : s.params.hasEnc = true) (hdec : s.drive.toDec = true)
    (htoEnc : s.drive.toEnc = true) : encPort (present c s) = some (encOut (fieldsOf c)) := by
  simp [encPort, drivenPorts, henc, hdec, htoEnc, decOut]

theorem lookup_err_of_entry {p : Params} {m : Rom} {c : Byte} (hv : valid c = true) (h : Spec.HasEntry p c) :
    (lookup p m c).2 = .ok :=
  (lookup_err_ok_iff p m hv).mpr (Option.isSome_iff_exists.mpr ((hasEntry_iff p c).mp h))

/-! What a consumer may take from a unit, by the unit's `err` output (U8). -/

section Consumer

variable {s : State} {e : Err}

theorem decResult_of_error (he : (decPort s).err = e) (h : e ≠ .ok) : decResult s = .error e := by
  simp [decResult, he, h]

theorem decResult_of_ok (he : (decPort s).err = .ok) : decResult s = .ok (decPort s).fields := if_pos he

theorem encResult_of_error {x : EncOut} (hx : encPort s = some x) (he : x.err = e) (h : e ≠ .ok) :
    encResult s = some (.error e) := by
  simp [encResult, hx, he, h]

theorem mbResult_of_error (he : (mbPort s).err = e) (h : e ≠ .ok) : mbResult s = .error e := by
  simp [mbResult, he, h]

theorem romResult_of_unread (hv : (romPort s).valid = false) : romResult s = none := by
  simp [romResult, hv]

theorem romResult_of_error (hv : (romPort s).valid = true) (he : (romPort s).err = e) (h : e ≠ .ok) :
    romResult s = some (.error e) := by
  simp [romResult, hv, he, h]

theorem romResult_of_ok (hv : (romPort s).valid = true) (he : (romPort s).err = .ok) :
    romResult s = some (.ok (romPort s).word) := by
  simp [romResult, hv, he]

end Consumer

/-! The consumer's results after a code is presented. -/

section ConsumerAfterPresent

variable {c : Byte} {s : State}

theorem decResult_present_of_valid (hdec : s.drive.toDec = true) (hv : valid c = true) :
    decResult (present c s) = .ok (fieldsOf c) := by
  have port := decPort_present (c := c) hdec
  rw [decResult_of_ok (by rw [port]; exact (decErr_eq_ok_iff c).mpr hv), port, decOut]

theorem decResult_present_of_invalid (hdec : s.drive.toDec = true) (hv : valid c = false) :
    decResult (present c s) = .error .invalidCode :=
  decResult_of_error (by rw [decPort_present hdec]; exact (decErr_eq_invalidCode_iff c).mpr hv) (by decide)

theorem mbResult_present_of_axis_three (hdec : s.drive.toDec = true) (hmb : s.drive.toMb = true)
    (h3 : (fieldsOf c).axis = 3#2) : mbResult (present c s) = .error .invalidField := by
  refine mbResult_of_error ?_ (by decide)
  rw [mbPort_present hdec hmb, mbOut_err, fieldErr_eq_invalidField_iff, h3]

theorem encResult_present_of_axis_three (henc : s.params.hasEnc = true) (hdec : s.drive.toDec = true)
    (htoEnc : s.drive.toEnc = true) (h3 : (fieldsOf c).axis = 3#2) :
    encResult (present c s) = some (.error .invalidField) :=
  encResult_of_error (encPort_present henc hdec htoEnc) ((fieldErr_eq_invalidField_iff _).mpr h3) (by decide)

/-- Without an output register the consumer's result is the lookup's (R139). -/
theorem romResult_present_of_error {e : Err} (hreg : s.params.outReg = false) (hrom : s.drive.toRom = true)
    (he : (lookup s.params s.rom c).2 = e) (h : e ≠ .ok) : romResult (present c s) = some (.error e) :=
  romResult_of_error (by rw [romPort_present hreg hrom]) (by rw [romPort_present hreg hrom, he]) h

theorem romResult_present_of_ok (hreg : s.params.outReg = false) (hrom : s.drive.toRom = true)
    (he : (lookup s.params s.rom c).2 = .ok) : romResult (present c s) = some (.ok (romPort (present c s)).word) :=
  romResult_of_ok (by rw [romPort_present hreg hrom]) (by rw [romPort_present hreg hrom, he])

end ConsumerAfterPresent

end Sys2Proof.Machine

open Sys2Proof Sys2Proof.Machine

/-- Settles O47, by induction on the length of the run: a safe state has a step, and the state after it is safe. -/
theorem everyRunFromASafeStateGoesOn : Obligations.EveryRunFromASafeStateGoesOn := by
  intro n
  induction n with
  | zero => exact fun s h => ⟨s, rfl, h, rfl, rfl⟩
  | succ n ih =>
    intro s h
    obtain ⟨u, hu⟩ := step_succeeds_of_scriptSafe h.scriptSafe
    obtain ⟨t, hrun, hinv, hparams, hscript⟩ := ih u (step_inv h hu)
    refine ⟨t, (run_succ core n hu).trans hrun, hinv, hparams.trans (step_params hu), ?_⟩
    rw [hscript, step_script hu, List.drop_tail]

/-- Settles O15: DEC shows the slices of the byte, and its error is the validity of the byte. -/
theorem decodeDrivesFieldsAndError : Obligations.DecodeDrivesFieldsAndError := by
  intro i c s hc hdec
  refine ⟨_, exec_eq_present i s, ?_⟩
  rw [encode_eq_iff.mp hc, decPort_present hdec, ← valid_iff_slices, Bool.not_eq_true]
  exact ⟨rfl, rfl, rfl, rfl, decErr_eq_ok_iff c, decErr_eq_invalidCode_iff c⟩

/-- Settles O16: ENC shows the packing of the fields it is given, and no other level changes. -/
theorem encodePacksFields : Obligations.EncodePacksFields := by
  intro s o rest henc hs
  refine ⟨_, encOut o, step_of_cons hs henc, encPort_afterTxn_enc (by simpa using henc) o, toNat_packFields o,
    packFields_high o, fieldErr_eq_invalidField_iff o, fieldErr_eq_ok_iff o, fun h3 => ?reserved, rfl, rfl, rfl, rfl,
    rfl, rfl⟩
  case reserved =>
    have hv := valid_packFields_of_axis_three h3
    have value : (packFields o).toNat = 16 * 3 + 8 * o.flip.toNat + 4 * o.sign.toNat + o.rot.toNat := by
      rw [toNat_packFields, h3]; rfl
    refine ⟨?_, ?_, (decErr_eq_invalidCode_iff _).mpr hv, (lookup_err_invalidCode_iff _ _ _).mpr hv⟩ <;>
      (rw [encOut, value]; omega)

/-- Settles O18: the fields of a packing are the packed fields, and the code is valid. -/
theorem orientationRoundTrip : Obligations.OrientationRoundTrip := by
  intro o h
  refine ⟨fieldErr_eq_ok h, ?_⟩
  rw [encOut, decOut, fieldsOf_packFields, (decErr_eq_ok_iff _).mpr (valid_packFields h)]

/-- Settles O19: packing the fields of a code clears bits 7:6, which are 0 in a valid code, and keeps its axis bits. -/
theorem codeRoundTrip : Obligations.CodeRoundTrip := by
  intro i c s hc henc hdec htoEnc
  refine ⟨_, encOut (fieldsOf c), exec_eq_present i s, ?_⟩
  rw [encode_eq_iff.mp hc, decPort_present hdec]
  simp only [← valid_iff, Bool.not_eq_true]
  refine ⟨encPort_present henc hdec htoEnc, packFields_fieldsOf_eq_low c, fun hv => ?valid, fun h3 => ?axisThree,
    fun hv h3 => ?highBits⟩
  case valid =>
    exact ⟨packFields_fieldsOf (high_eq_zero_of_valid hv), fieldErr_eq_ok (axis_ne_three_of_valid hv),
      (decErr_eq_ok_iff c).mpr hv⟩
  case axisThree =>
    exact ⟨(fieldErr_eq_invalidField_iff _).mpr h3, valid_packFields_of_axis_three h3⟩
  case highBits =>
    have back : valid (packFields (fieldsOf c)) = true := valid_packFields h3
    refine ⟨fieldErr_eq_ok h3, back, fun same => ?_, (decErr_eq_invalidCode_iff c).mpr hv⟩
    exact absurd (same ▸ back) (Bool.eq_false_iff.mp hv)

/-- Settles O42: a result is read off the unit's `err` output, and each unit's error is a case of the code presented. -/
theorem consumerGetsErrorInsteadOfData : Obligations.ConsumerGetsErrorInsteadOfData := by
  refine ⟨fun s => ?state, fun p hreg => ?reset, fun i c s hc => ⟨_, exec_eq_present i s, ?_⟩⟩
  case state =>
    refine ⟨decResult_of_error rfl, fun e hx => encResult_of_error hx rfl, mbResult_of_error rfl, fun hreg => ?_,
      fun hreg hv => ?_, fun hreg hv => ?_, fun hreg hv he => ?_⟩
    · exact romResult_of_error (by rw [romPort_of_combinational hreg]) rfl
    all_goals have port := romPort_of_registered hreg
    · exact romResult_of_unread (by rw [port, hv])
    · exact romResult_of_error (by rw [port, hv]) (by rw [port])
    · rw [romResult_of_ok (by rw [port, hv]) (by rw [port, he]), port]
  case reset =>
    exact romResult_of_unread (by rw [romPort_of_registered hreg]; rfl)
  rw [encode_eq_iff.mp hc]
  simp only [← valid_iff, ← fieldsOf_eq_fields, Bool.not_eq_true]
  refine ⟨fun hdec => ⟨decResult_present_of_valid hdec, decResult_present_of_invalid hdec,
      mbResult_present_of_axis_three hdec, fun htoEnc henc => encResult_present_of_axis_three henc hdec htoEnc⟩,
    fun hrom hreg => ⟨fun hv => ?_, fun hv hno => ?_, fun hv he => ?_⟩⟩
  · exact romResult_present_of_error hreg hrom ((lookup_err_invalidCode_iff _ _ c).mpr hv) (by decide)
  · exact romResult_present_of_error hreg hrom ((lookup_err_notInTable_iff _ _ c).mpr ⟨hv, hno⟩) (by decide)
  · exact romResult_present_of_ok hreg hrom (lookup_err_of_entry hv he)
end

section
/-! PROOFS. The matrix builder: signed-permutation matrices, the permutation and the signs of an orientation, the whole
cube group, and the composition of quarter turns and the reflection. -/

namespace Sys2Proof.Machine

/-! Signed-permutation matrices, given by a permutation and the signs of its columns. -/

/-- The matrix whose column `c` is `e c` at row `σ c` and 0 elsewhere (R106). -/
def signedPermMatrix (σ : Equiv.Perm (Fin 3)) (e : Fin 3 → Int) : Matrix (Fin 3) (Fin 3) Int :=
  Matrix.of fun r c => if r = σ c then e c else 0

section SignedPermMatrix

variable {σ τ : Equiv.Perm (Fin 3)} {e f : Fin 3 → Int}

theorem signedPermMatrix_apply (r c : Fin 3) : signedPermMatrix σ e r c = if r = σ c then e c else 0 := rfl

theorem signedPermMatrix_ne_zero_iff (he : ∀ c, e c = 1 ∨ e c = -1) (r c : Fin 3) :
    signedPermMatrix σ e r c ≠ 0 ↔ r = σ c := by
  have nonzero : e c ≠ 0 := by have := he c; omega
  simp [signedPermMatrix_apply, nonzero]

theorem signedPerm_signedPermMatrix (he : ∀ c, e c = 1 ∨ e c = -1) : Spec.SignedPerm (signedPermMatrix σ e) := by
  simp only [Spec.SignedPerm, signedPermMatrix_ne_zero_iff he]
  refine ⟨fun r => ⟨σ.symm r, (σ.apply_symm_apply r).symm, fun c hc => ?_⟩, fun c => ⟨σ c, rfl, fun _ h => h⟩,
    fun r c => ?_⟩
  · rw [hc, σ.symm_apply_apply]
  · rw [signedPermMatrix_apply]
    split
    · exact .inr (he c)
    · exact .inl rfl

/-- Every signed-permutation matrix has this form: the row of a column's nonzero entry is a permutation of the columns. -/
theorem exists_signedPermMatrix_eq {M : Matrix (Fin 3) (Fin 3) Int} (h : Spec.SignedPerm M) :
    ∃ σ e, (∀ c, e c = 1 ∨ e c = -1) ∧ signedPermMatrix σ e = M := by
  obtain ⟨rows, cols, values⟩ := h
  choose row nonzero only using cols
  have injective : Function.Injective row := fun c c' same =>
    (rows (row c)).unique (nonzero c) (by rw [same]; exact nonzero c')
  refine ⟨Equiv.ofBijective row (Finite.injective_iff_bijective.mp injective), fun c => M (row c) c,
    fun c => (values (row c) c).resolve_left (nonzero c), ?_⟩
  ext r c
  rw [signedPermMatrix_apply, Equiv.ofBijective_apply]
  split
  · simp [*]
  · by_contra other
    exact absurd (only c r (Ne.symm other)) ‹_›

/-- The matrix determines the permutation, by where its entries are not 0, and then the signs. -/
theorem signedPermMatrix_inj (he : ∀ c, e c = 1 ∨ e c = -1) (hf : ∀ c, f c = 1 ∨ f c = -1) :
    signedPermMatrix σ e = signedPermMatrix τ f ↔ σ = τ ∧ e = f := by
  refine ⟨fun same => ?_, by rintro ⟨rfl, rfl⟩; rfl⟩
  have perm : σ = τ := Equiv.ext fun c => by
    rw [← signedPermMatrix_ne_zero_iff hf, ← same, signedPermMatrix_ne_zero_iff he]
  refine ⟨perm, funext fun c => ?_⟩
  simpa [signedPermMatrix_apply, perm] using congrFun (congrFun same (σ c)) c

/-- The columns are orthonormal, and a square matrix with a left inverse has it as right inverse. -/
theorem signedPermMatrix_mul_transpose (he : ∀ c, e c = 1 ∨ e c = -1) :
    signedPermMatrix σ e * (signedPermMatrix σ e).transpose = 1 := by
  have square : ∀ c, e c * e c = 1 := fun c => by obtain h | h := he c <;> simp [h]
  apply mul_eq_one_comm.mp
  ext c c'
  rw [Matrix.mul_apply, Finset.sum_eq_single (σ c)]
  · by_cases same : c = c' <;> simp [signedPermMatrix_apply, Matrix.one_apply, same, square]
  · intro r _ other
    simp [signedPermMatrix_apply, other]
  · simp

theorem parity_eq_sign (σ : Equiv.Perm (Fin 3)) :
    parity (σ 0).val (σ 1).val (σ 2).val = (Equiv.Perm.sign σ : Int) := by
  revert σ; decide

theorem det_signedPermMatrix :
    (signedPermMatrix σ e).det = e 0 * e 1 * e 2 * parity (σ 0).val (σ 1).val (σ 2).val := by
  have scaled : signedPermMatrix σ e =
      Matrix.of fun r c => e c * (1 : Matrix (Fin 3) (Fin 3) Int).submatrix id σ r c := by
    ext r c
    simp [signedPermMatrix_apply, Matrix.one_apply]
  rw [scaled, Matrix.det_mul_row, Matrix.det_permute', Matrix.det_one, mul_one, Fin.prod_univ_three, parity_eq_sign,
    Int.cast_id]

end SignedPermMatrix

/-! The matrix of an orientation is the one of its axes and signs. -/

/-- The elements of MB's matrix are the spec's (R106). -/
theorem mat_apply (v : AlgVariant) {o : Orientation} (h : o.axis ≠ 3#2) (r c : Fin 3) :
    Spec.mat v o r c = Spec.elem v o r c := by
  rw [Spec.mat, mbMat_mbOut v h, intMat, Matrix.of_apply, tritInt_matOf]

/-- Equal axes and signs give equal matrices. -/
theorem mat_congr {v w : AlgVariant} {o o' : Orientation} (h : o.axis ≠ 3#2) (h' : o'.axis ≠ 3#2)
    (haxis : Spec.axis v o = Spec.axis w o') (hsign : Spec.sign o = Spec.sign o') : Spec.mat v o = Spec.mat w o' := by
  ext r c
  rw [mat_apply v h, mat_apply w h', Spec.elem, Spec.elem, haxis, hsign]

/-- The permutation `c ↦ axis_c` of a valid orientation (R103, R105). -/
noncomputable def axisPerm (v : AlgVariant) {o : Orientation} (h : o.axis ≠ 3#2) : Equiv.Perm (Fin 3) :=
  Equiv.ofBijective (fun c => ⟨(Spec.axis v o c).toNat, by have := spec_axis_range v h c; omega⟩) <|
    Finite.injective_iff_bijective.mp fun c c' same => spec_axis_injective v h <| by
      have := spec_axis_range v h c
      have := spec_axis_range v h c'
      have := Fin.val_eq_of_eq same
      simp only at this
      omega

@[simp] theorem axisPerm_val (v : AlgVariant) {o : Orientation} (h : o.axis ≠ 3#2) (c : Fin 3) :
    ((axisPerm v h c).val : Int) = Spec.axis v o c :=
  Int.toNat_of_nonneg (spec_axis_range v h c).1

theorem bitSign_eq_one_or (b : BitVec 1) : Spec.bitSign b = 1 ∨ Spec.bitSign b = -1 := by
  unfold Spec.bitSign; split <;> simp

theorem rotSign_eq_one_or (n : Nat) : Spec.rotSign n = 1 ∨ Spec.rotSign n = -1 := by
  unfold Spec.rotSign; split <;> simp

theorem spec_sign_eq_one_or (o : Orientation) (c : Fin 3) : Spec.sign o c = 1 ∨ Spec.sign o c = -1 := by
  match c with
  | 0 => exact bitSign_eq_one_or _
  | 1 => exact rotSign_eq_one_or _
  | 2 =>
    simp only [Spec.sign]
    obtain h | h := rotSign_eq_one_or (o.rot.toNat + 1) <;> obtain h' | h' := bitSign_eq_one_or o.flip <;> simp [h, h']

theorem mat_eq_signedPermMatrix (v : AlgVariant) {o : Orientation} (h : o.axis ≠ 3#2) :
    Spec.mat v o = signedPermMatrix (axisPerm v h) (Spec.sign o) := by
  ext r c
  have row : (r.val : Int) = Spec.axis v o c ↔ r = axisPerm v h c := by
    rw [← axisPerm_val v h, Nat.cast_inj, Fin.ext_iff]
  simp only [mat_apply v h, Spec.elem, signedPermMatrix_apply, row]

/-- A matrix is MB's for an orientation when it has the orientation's axes and signs. -/
theorem mat_eq_iff (v : AlgVariant) {o : Orientation} (h : o.axis ≠ 3#2) {σ : Equiv.Perm (Fin 3)} {e : Fin 3 → Int}
    (he : ∀ c, e c = 1 ∨ e c = -1) :
    Spec.mat v o = signedPermMatrix σ e ↔ (Spec.axis v o = fun c => ((σ c).val : Int)) ∧ Spec.sign o = e := by
  rw [mat_eq_signedPermMatrix v h, signedPermMatrix_inj (spec_sign_eq_one_or o) he]
  refine and_congr_left fun _ => ⟨?_, fun same => Equiv.ext fun c => ?_⟩
  · rintro rfl
    exact funext fun c => (axisPerm_val v h c).symm
  · rw [Fin.ext_iff, ← Nat.cast_inj (R := Int), axisPerm_val, same]

theorem mat_eq_mat_iff (v : AlgVariant) {o o' : Orientation} (h : o.axis ≠ 3#2) (h' : o'.axis ≠ 3#2) :
    Spec.mat v o = Spec.mat v o' ↔ Spec.axis v o = Spec.axis v o' ∧ Spec.sign o = Spec.sign o' := by
  rw [mat_eq_signedPermMatrix v h', mat_eq_iff v h (spec_sign_eq_one_or o')]
  simp only [axisPerm_val]

/-! The determinant (R111). -/

/-- The determinant is the product of the signs times the parity of the axes. -/
theorem det_mat (v : AlgVariant) {o : Orientation} (h : o.axis ≠ 3#2) :
    (Spec.mat v o).det =
      Spec.sign o 0 * Spec.sign o 1 * Spec.sign o 2 * parity (Spec.axis v o 0) (Spec.axis v o 1) (Spec.axis v o 2) := by
  simp only [mat_eq_signedPermMatrix v h, det_signedPermMatrix, axisPerm_val]

theorem det_mat_quarterTurn {o : Orientation} (h : o.axis ≠ 3#2) :
    (Spec.mat .quarterTurn o).det = if o.flip = 0#1 then 1 else -1 := by
  rw [Spec.mat, mbMat_mbOut _ h, det_intMat_quarterTurn h]

/-- Without the swap the axes are `a`, `a + s`, `a - s`, a cyclic order that the sign of the normal gives. -/
theorem parity_literal {o : Orientation} (h : o.axis ≠ 3#2) :
    parity (Spec.axis .literal o 0) (Spec.axis .literal o 1) (Spec.axis .literal o 2) = Spec.bitSign o.sign := by
  obtain ⟨rot, sign, flip, axis⟩ := o
  revert rot sign flip axis
  decide

/-- Adjacent entries of ROT_SIGN differ after an odd rot only (R104). -/
theorem rotSign_mul_bitSign (rot : BitVec 2) (flip : BitVec 1) :
    Spec.rotSign rot.toNat * (Spec.rotSign (rot.toNat + 1) * Spec.bitSign flip) =
      if rot.toNat % 2 = flip.toNat then 1 else -1 := by
  revert rot flip; decide

theorem det_mat_literal {o : Orientation} (h : o.axis ≠ 3#2) :
    (Spec.mat .literal o).det = if o.rot.toNat % 2 = o.flip.toNat then 1 else -1 := by
  have square : Spec.bitSign o.sign * Spec.bitSign o.sign = 1 := by
    obtain hs | hs := bitSign_eq_one_or o.sign <;> simp [hs]
  rw [det_mat _ h, parity_literal h, ← rotSign_mul_bitSign]
  simp only [Spec.sign]
  linear_combination (Spec.rotSign o.rot.toNat * (Spec.rotSign (o.rot.toNat + 1) * Spec.bitSign o.flip)) * square

/-! The cube group (R112). -/

/-- The orientation with the given axes and signs under QUARTER_TURN: the normal is column 0, an odd rot is read off the
order of the tangent axes, the two halves of the turn off `sign_1`, and flip off `sign_2`. -/
def orientationOf (a e : Fin 3 → Int) : Orientation :=
  let odd : Prop := a 1 ≠ (a 0 + e 0) % 3
  let rot : BitVec 2 := if e 1 = 1 then (if odd then 1 else 0) else if odd then 3 else 2
  { rot := rot, sign := if e 0 = 1 then 0 else 1, flip := if e 2 = Spec.rotSign (rot.toNat + 1) then 0 else 1,
    axis := BitVec.ofInt 2 (a 0) }

theorem orientationOf_axis_sign {o : Orientation} (h : o.axis ≠ 3#2) :
    orientationOf (Spec.axis .quarterTurn o) (Spec.sign o) = o := by
  obtain ⟨rot, sign, flip, axis⟩ := o
  revert rot sign flip axis
  decide

/-- Every permutation of the axes with every choice of signs comes from an orientation. -/
theorem axis_sign_orientationOf (σ : Equiv.Perm (Fin 3)) {e : Fin 3 → Int} (he : ∀ c, e c = 1 ∨ e c = -1) :
    (orientationOf (fun c => (σ c).val) e).axis ≠ 3#2 ∧
      (Spec.axis .quarterTurn (orientationOf (fun c => (σ c).val) e) = fun c => ((σ c).val : Int)) ∧
      Spec.sign (orientationOf (fun c => (σ c).val) e) = e := by
  have all : ∀ σ : Equiv.Perm (Fin 3), ∀ x ∈ [(1 : Int), -1], ∀ y ∈ [(1 : Int), -1], ∀ z ∈ [(1 : Int), -1],
      (orientationOf (fun c => (σ c).val) ![x, y, z]).axis ≠ 3#2 ∧
        (Spec.axis .quarterTurn (orientationOf (fun c => (σ c).val) ![x, y, z]) = fun c => ((σ c).val : Int)) ∧
        Spec.sign (orientationOf (fun c => (σ c).val) ![x, y, z]) = ![x, y, z] := by decide
  have list : e = ![e 0, e 1, e 2] := by ext c; fin_cases c <;> rfl
  rw [list]
  exact all σ _ (by simpa using he 0) _ (by simpa using he 1) _ (by simpa using he 2)

theorem existsUnique_orientation_of_matrix {M : Matrix (Fin 3) (Fin 3) Int} (h : Spec.SignedPerm M) :
    ∃! o : Orientation, o.axis ≠ 3#2 ∧ Spec.mat .quarterTurn o = M := by
  obtain ⟨σ, e, he, rfl⟩ := exists_signedPermMatrix_eq h
  obtain ⟨valid, axes, signs⟩ := axis_sign_orientationOf σ he
  refine ⟨orientationOf (fun c => (σ c).val) e, ⟨valid, (mat_eq_iff _ valid he).mpr ⟨axes, signs⟩⟩, ?_⟩
  rintro o ⟨ho, hmat⟩
  obtain ⟨hσ, hsign⟩ := (mat_eq_iff _ ho he).mp hmat
  rw [← orientationOf_axis_sign ho, hσ, hsign]

/-- Two adjacent entries of ROT_SIGN tell the four values of rot apart (R104). -/
theorem rot_eq_of_rotSign {r r' : BitVec 2} (h : Spec.rotSign r.toNat = Spec.rotSign r'.toNat)
    (hnext : Spec.rotSign (r.toNat + 1) = Spec.rotSign (r'.toNat + 1)) : r = r' := by
  revert r r'; decide

theorem bitSign_injective : Function.Injective Spec.bitSign := by decide

/-- Under LITERAL a flip-free orientation is read off column 0 and the two signs of rot. -/
theorem literal_mat_injective_of_unflipped {o o' : Orientation} (h : o.axis ≠ 3#2) (h' : o'.axis ≠ 3#2)
    (hf : o.flip = 0#1) (hf' : o'.flip = 0#1) (same : Spec.mat .literal o = Spec.mat .literal o') : o = o' := by
  obtain ⟨axes, signs⟩ := (mat_eq_mat_iff .literal h h').mp same
  have haxis : o.axis = o'.axis := BitVec.eq_of_toNat_eq (Nat.cast_inj.mp (congrFun axes 0))
  have hsign : o.sign = o'.sign := bitSign_injective (congrFun signs 0)
  have hrot : o.rot = o'.rot := by
    refine rot_eq_of_rotSign (congrFun signs 1) ?_
    simpa [Spec.sign, hf, hf', Spec.bitSign] using congrFun signs 2
  cases o; cases o'; simp_all

/-- Without the swap the axes rest on axis and sign alone (R105). -/
theorem axis_literal_congr {o o' : Orientation} (haxis : o.axis = o'.axis) (hsign : o.sign = o'.sign) :
    Spec.axis .literal o = Spec.axis .literal o' := by
  ext c
  match c with
  | 0 => simp [Spec.axis, haxis]
  | 1 => simp [Spec.axis, Spec.Swaps, Spec.t1, haxis, hsign]
  | 2 => simp [Spec.axis, Spec.Swaps, Spec.t2, haxis, hsign]

/-- Toggling bit 0 of rot keeps `sign_1` and negates `sign_2`, as flip does (R104). -/
theorem sign_flip_eq_sign_toggle (o : Orientation) :
    Spec.sign { o with flip := 1#1 } = Spec.sign { o with flip := 0#1, rot := o.rot ^^^ 1#2 } := by
  have toggled : ∀ rot : BitVec 2, Spec.rotSign rot.toNat = Spec.rotSign (rot ^^^ 1#2).toNat ∧
      Spec.rotSign (rot.toNat + 1) * Spec.bitSign 1#1 =
        Spec.rotSign ((rot ^^^ 1#2).toNat + 1) * Spec.bitSign 0#1 := by decide
  ext c
  match c with
  | 0 => rfl
  | 1 => exact (toggled o.rot).1
  | 2 => exact (toggled o.rot).2

/-- Under LITERAL half of the 24 flip-free matrices are mirrored: those with an odd rot. -/
theorem count_mirrored_literal :
    ((List.range 24).filter fun i => (Spec.mat .literal (fieldsOf (code24 (BitVec.ofNat 5 i)))).det = -1).length = 12 := by
  have mirrored : ∀ i ∈ List.range 24,
      decide ((Spec.mat .literal (fieldsOf (code24 (BitVec.ofNat 5 i)))).det = -1) = decide (i % 2 = 1) := by
    intro i hi
    have hlt : (BitVec.ofNat 5 i).toNat < 24 := by
      rw [BitVec.toNat_ofNat]; have := List.mem_range.mp hi; omega
    rw [det_mat_literal (axis_ne_three_of_valid (valid_code24 hlt)), decide_eq_decide]
    revert i; decide
  rw [List.filter_congr mirrored]
  rfl

/-! The composition law (R116): each generator acts on the columns. -/

theorem mul_quarterTurnX_apply (A : Matrix (Fin 3) (Fin 3) Int) (r c : Fin 3) :
    (A * Spec.quarterTurnX) r c = ![A r 0, A r 2, -A r 1] c := by
  fin_cases c <;> simp [Matrix.mul_apply, Fin.sum_univ_three, Spec.quarterTurnX]

theorem mul_flipZ_apply (A : Matrix (Fin 3) (Fin 3) Int) (r c : Fin 3) :
    (A * Spec.flipZ) r c = ![A r 0, A r 1, -A r 2] c := by
  fin_cases c <;> simp [Matrix.mul_apply, Fin.sum_univ_three, Spec.flipZ]

/-- One more quarter turn exchanges the tangent axes (R105). -/
theorem axis_rot_succ (o : Orientation) (rot : BitVec 2) :
    Spec.axis .quarterTurn { o with rot := rot + 1#2 } =
      ![Spec.axis .quarterTurn { o with rot := rot } 0, Spec.axis .quarterTurn { o with rot := rot } 2,
        Spec.axis .quarterTurn { o with rot := rot } 1] := by
  have toggles : (rot + 1#2).toNat % 2 = 1 ↔ ¬ rot.toNat % 2 = 1 := by revert rot; decide
  ext c
  by_cases odd : rot.toNat % 2 = 1 <;> fin_cases c <;>
    simp [Spec.axis, Spec.Swaps, Spec.t1, Spec.t2, toggles, odd, -BitVec.toNat_add]

/-- Without a flip, one more quarter turn moves `sign_2` to the second column and `-sign_1` to the third (R104). -/
theorem sign_rot_succ {o : Orientation} (h : o.flip = 0#1) (rot : BitVec 2) :
    Spec.sign { o with rot := rot + 1#2 } =
      ![Spec.sign { o with rot := rot } 0, Spec.sign { o with rot := rot } 2, -Spec.sign { o with rot := rot } 1] := by
  obtain ⟨next, opposite⟩ : Spec.rotSign (rot + 1#2).toNat = Spec.rotSign (rot.toNat + 1) ∧
      Spec.rotSign ((rot + 1#2).toNat + 1) = -Spec.rotSign rot.toNat := by revert rot; decide
  ext c
  fin_cases c <;> simp [Spec.sign, Spec.bitSign, h, next, opposite, -BitVec.toNat_add]

theorem mat_rot_succ {o : Orientation} (h : o.axis ≠ 3#2) (hf : o.flip = 0#1) (rot : BitVec 2) :
    Spec.mat .quarterTurn { o with rot := rot + 1#2 } =
      Spec.mat .quarterTurn { o with rot := rot } * Spec.quarterTurnX := by
  have entries (rot) := mat_apply .quarterTurn (o := { o with rot := rot }) h
  ext r c
  rw [mul_quarterTurnX_apply]
  simp only [entries, Spec.elem, axis_rot_succ, sign_rot_succ hf]
  fin_cases c
  · rfl
  · rfl
  · by_cases row : (r.val : Int) = Spec.axis .quarterTurn { o with rot := rot } 1 <;> simp [row]

theorem mat_rot_eq_mul_pow {o : Orientation} (h : o.axis ≠ 3#2) (hf : o.flip = 0#1) (n : Nat) :
    Spec.mat .quarterTurn { o with rot := BitVec.ofNat 2 n } =
      Spec.mat .quarterTurn { o with rot := 0#2 } * Spec.quarterTurnX ^ n := by
  induction n with
  | zero => rw [pow_zero, mul_one]
  | succ n ih => rw [pow_succ, ← mul_assoc, ← ih, ← mat_rot_succ h hf, BitVec.ofNat_add]

/-- `flip` negates the third column (R104). -/
theorem mat_flip {o : Orientation} (h : o.axis ≠ 3#2) :
    Spec.mat .quarterTurn { o with flip := 1#1 } = Spec.mat .quarterTurn { o with flip := 0#1 } * Spec.flipZ := by
  have entries (flip) := mat_apply .quarterTurn (o := { o with flip := flip }) h
  ext r c
  rw [mul_flipZ_apply]
  simp only [entries]
  fin_cases c
  · rfl
  · rfl
  · simp [Spec.elem, Spec.axis, Spec.sign, Spec.t1, Spec.t2, Spec.bitSign, apply_ite Neg.neg]

theorem mat_flip_eq_mul_pow {o : Orientation} (h : o.axis ≠ 3#2) :
    Spec.mat .quarterTurn o = Spec.mat .quarterTurn { o with flip := 0#1 } * Spec.flipZ ^ o.flip.toNat := by
  obtain ⟨rot, sign, flip, axis⟩ := o
  obtain rfl | rfl := BitVec.eq_zero_or_eq_one flip
  · simp
  · simpa using mat_flip h

/-! The identity and the normal column (R113, R114). -/

theorem mat_zero (v : AlgVariant) : Spec.mat v ⟨0, 0, 0, 0⟩ = 1 := by
  ext r c
  rw [mat_apply v (by decide), Matrix.one_apply]
  cases v <;> revert r c <;> decide

end Sys2Proof.Machine

open Sys2Proof Sys2Proof.Machine

/-- Settles O20: the transaction puts the fields on MB's inputs and holds every other level. -/
theorem matrixBuilderOutputs : Obligations.MatrixBuilderOutputs := by
  intro s o rest hs
  exact ⟨_, step_of_cons hs rfl, mbShows_mbOut _ _, rfl, rfl, rfl, rfl, rfl, rfl⟩

/-- Settles O24: the matrix is the one of a permutation with signs. -/
theorem matrixIsMonomialAndOrthogonal : Obligations.MatrixIsMonomialAndOrthogonal := by
  intro v o h
  rw [mat_eq_signedPermMatrix v h]
  exact ⟨signedPerm_signedPermMatrix (spec_sign_eq_one_or o), signedPermMatrix_mul_transpose (spec_sign_eq_one_or o)⟩

/-- Settles O25: the determinant of a permutation with signs, and the parity of the axes under each variant. -/
theorem determinantFormula : Obligations.DeterminantFormula :=
  fun _ h => ⟨fun v => det_mat v h, det_mat_quarterTurn h, det_mat_literal h⟩

/-- Settles O26: an orientation is read back from the permutation and the signs of its matrix; under LITERAL flip does what
toggling bit 0 of rot does. -/
theorem matricesAreTheWholeCubeGroup : Obligations.MatricesAreTheWholeCubeGroup := by
  refine ⟨fun M => existsUnique_orientation_of_matrix, fun o h => ⟨?_, det_mat_quarterTurn h⟩,
    fun o o' => literal_mat_injective_of_unflipped, count_mirrored_literal, fun o h => ?_⟩
  · exact (matrixIsMonomialAndOrthogonal .quarterTurn o h).1
  · exact mat_congr h h (axis_literal_congr rfl rfl) (sign_flip_eq_sign_toggle o)

/-- Settles O28: the sole nonzero entry of column 0 is `sign_0` at row `axis`. -/
theorem normalColumn : Obligations.NormalColumn := by
  intro v o a ha
  have haxis : o.axis ≠ 3#2 := by rintro h3; rw [h3] at ha; exact absurd ha (by revert a; decide)
  have hsign : Spec.bitSign o.sign = if o.sign = 0#1 then 1 else -1 := by
    generalize o.sign = b; revert b; decide
  rw [Matrix.mulVec_single_one, ← hsign]
  ext r
  have row : (r.val : Int) = o.axis.toNat ↔ r = a := by rw [ha, Nat.cast_inj, Fin.ext_iff]
  simp [Matrix.col_apply, mat_apply v haxis, Spec.elem, Spec.axis, Spec.sign, Pi.single_apply, row]

/-- Settles O29: the flip comes off as a last factor, then the quarter turns one by one. -/
theorem compositionLaw : Obligations.CompositionLaw := by
  intro o h
  rw [mat_flip_eq_mul_pow h, ← mat_rot_eq_mul_pow (o := { o with flip := 0#1 }) h rfl, BitVec.ofNat_toNat,
    BitVec.setWidth_eq]

/-- Settles O23: the Euclidean remainder and quotient of `a + d`. -/
theorem axisAddIsEuclidean : Obligations.AxisAddIsEuclidean :=
  ⟨fun _ _ _ hn => ⟨Int.emod_nonneg _ hn.ne', Int.emod_lt_of_pos _ hn, _, (Int.emod_add_mul_ediv _ _).symm⟩, rfl⟩

/-- Settles O27: all fields of the code are 0, and MB is given the fields. -/
theorem identityOrientation : Obligations.IdentityOrientation := by
  refine ⟨rfl, fun s hdec hmb => ⟨_, exec_eq_present _ s, ?_⟩⟩
  have fields : fieldsOf (encodeByte .oA0S0F0R0) = ⟨0, 0, 0, 0⟩ := by decide
  rw [mbPort_present hdec hmb, decPort_present hdec, mbOut_err, decOut, fields]
  exact ⟨mat_zero _, rfl, rfl⟩

/-- Settles O30: an index below 3 lies in the block, and the index 3 on the border. -/
theorem homogeneousExtension : Obligations.HomogeneousExtension := by
  intro M
  refine ⟨fun r c => ?block, fun c => ?row, fun r => ?column, rfl⟩
  case block => simp [homog]
  case row => fin_cases c <;> rfl
  case column => fin_cases r <;> rfl
end

section
/-! PROOFS. What the ROM's ports show: the lookup of every code without an output register, the register at an edge, and
along a run with neither a read nor a reset. -/

namespace Sys2Proof.Machine

/-! The register along a run (R140, R184). -/

theorem quiet_code_iff {d : Drive} {c : Byte} :
    (Txn.code d c).quiet = true ↔ d.clk = .hold ∨ d.clk = .rise false false := by
  cases h : d.clk <;> simp [Txn.quiet, h]

theorem afterTxn_q_of_quiet {x : Txn} (h : x.quiet = true) (s : State) : (afterTxn x s).q = s.q := by
  cases x with
  | code d c => exact present_q_of_quiet (.inr (quiet_code_iff.mp h))
  | enc o => rfl
  | mb o => rfl
  | powerLoss => cases h

/-- A quiet script that fits keeps the register for as long as it runs, and an empty script idles. -/
theorem run_of_quiet (n : Nat) (s : State)
    (h : ∀ x ∈ s.script.take n, x.quiet = true ∧ x.wellFormed s.params = true) :
    ∃ t : State, Host.Core.run core n s = .next t ∧ t.q = s.q ∧ t.params = s.params := by
  induction n generalizing s with
  | zero => exact ⟨s, rfl, rfl, rfl⟩
  | succ n ih =>
    cases hs : s.script with
    | nil =>
      rw [run_succ core n (step_of_nil hs)]
      exact ih s (by simp [hs])
    | cons x rest =>
      obtain ⟨⟨quiet, fits⟩, later⟩ := by simpa [hs] using h
      rw [run_succ core n (step_of_cons hs fits)]
      obtain ⟨t, hrun, hq, hparams⟩ := ih (afterTxn x (s.setScript rest)) (by simpa using later)
      exact ⟨t, hrun, hq.trans (afterTxn_q_of_quiet quiet _), by simpa using hparams⟩

end Sys2Proof.Machine

open Sys2Proof Sys2Proof.Machine

/-- Settles O34, by induction on the length of the run: a quiet transaction keeps the register, which is what the ROM
shows. -/
theorem registeredOutputHoldsUntilNextRead : Obligations.RegisteredOutputHoldsUntilNextRead := by
  intro n s hreg h
  obtain ⟨t, hrun, hq, hparams⟩ := run_of_quiet n s h
  refine ⟨t, hrun, hq, ?_⟩
  rw [romPort_of_registered hreg, romPort_of_registered (by rwa [hparams]), hq]

/-- Settles O31: without a register the port is the lookup of the code that was presented. -/
theorem combinationalLookup : Obligations.CombinationalLookup := by
  intro i c s hc hreg hintact hrom
  refine ⟨_, exec_eq_present i s, ?_⟩
  rw [encode_eq_iff.mp hc, romPort_present hreg hrom, hintact]
  exact ⟨rfl, lookupShows_lookup _ _⟩

/-- Settles O32: at an edge the register takes the case of `rst` and `rom_en`, and it keeps its contents without one. -/
theorem registeredReadAtAnEdge : Obligations.RegisteredReadAtAnEdge := by
  intro i c s hc hreg hintact
  refine ⟨_, exec_eq_present i s, ?_⟩
  rw [encode_eq_iff.mp hc]
  refine ⟨by rw [present_ports]; rfl, romPort_of_registered (by simpa using hreg), fun en hclk => ?reset,
    fun hclk => ?read, fun hclk => ?keep, fun hclk => ?hold⟩
  case reset => rw [present_q_of_rise c s hclk hreg]; rfl
  case read =>
    rw [present_q_of_rise c s hclk hreg, present_ports, hintact]
    exact ⟨lookupShows_lookup _ _, rfl⟩
  case keep => exact present_q_of_quiet (.inr (.inr hclk))
  case hold => exact ⟨present_q_of_hold c s hclk, romPort_present_registered hreg hclk⟩
end

section
/-! PROOFS. The ROM's contents: which entry a code reads, the matrix and the border in each entry, the tables under each
variant, and the agreement with MB. -/

namespace Sys2Proof.Machine

/-! The entries and their codes. -/

theorem flip_fieldsOf_eq_zero_iff (c : Byte) : (fieldsOf c).flip = 0#1 ↔ c.toNat / 8 % 2 = 0 := by
  revert c; decide

theorem flip_fieldsOf_eq_one_iff (c : Byte) : (fieldsOf c).flip = 1#1 ↔ c.toNat / 8 % 2 = 1 := by
  revert c; decide

theorem entryCode_of_full {p : Params} (h : p.entries = .e48 ∨ p.rom24 = .prefixed) (i : Nat) :
    entryCode p i = BitVec.ofNat 8 i := by
  unfold entryCode
  split
  case h_1 h24 hcomp => simp [h24, hcomp] at h
  case h_2 => rfl

theorem toNat_entryCode_of_full {p : Params} (h : p.entries = .e48 ∨ p.rom24 = .prefixed) {i : Nat}
    (hi : i < p.entries.count) : (entryCode p i).toNat = i := by
  have count_le : p.entries.count ≤ 48 := by cases p.entries <;> decide
  rw [entryCode_of_full h]
  exact Nat.mod_eq_of_lt (by omega)

theorem entryCode_of_compressed {p : Params} (he : p.entries = .e24) (hr : p.rom24 = .compressed) (i : Nat) :
    entryCode p i = code24 (BitVec.ofNat 5 i) := by
  simp [entryCode, he, hr]

theorem entryOf_of_unflipped {p : Params} {c : Byte} (he : p.entries = .e24) (hr : p.rom24 = .compressed)
    (hf : (fieldsOf c).flip = 0#1) : entryOf p c = some (idx24 c).toNat := by
  have bit3 : ∀ c : Byte, (fieldsOf c).flip = 0#1 → c.getLsbD 3 = false := by decide
  simp only [entryOf, he, hr, bit3 c hf]
  rfl

theorem entryOf_of_lt_24 {p : Params} {c : Byte} (he : p.entries = .e24) (hr : p.rom24 = .prefixed)
    (hc : c.toNat < 24) : entryOf p c = some c.toNat := by
  simp only [entryOf, he, hr, if_neg (not_le.mpr hc)]

/-- Every entry is the one its own code reads (R131 to R133, R135 to R137). -/
theorem entryOf_entryCode {p : Params} {i : Nat} (hi : i < p.entries.count) :
    valid (entryCode p i) = true ∧ entryOf p (entryCode p i) = some i := by
  rw [valid_iff, Spec.Valid]
  cases he : p.entries with
  | e48 =>
    have value := toNat_entryCode_of_full (.inl he) hi
    rw [he, Entries.count] at hi
    rw [entryOf, he, value]
    exact ⟨by omega, rfl⟩
  | e24 =>
    cases hr : p.rom24 with
    | compressed =>
      rw [he, Entries.count] at hi
      have index : (BitVec.ofNat 5 i).toNat = i := Nat.mod_eq_of_lt (by omega)
      rw [entryCode_of_compressed he hr, entryOf_of_unflipped he hr (code24_flip _), idx24_code24, toNat_code24, index]
      exact ⟨by omega, rfl⟩
    | prefixed =>
      have value := toNat_entryCode_of_full (.inr hr) hi
      rw [he, Entries.count] at hi
      rw [entryOf_of_lt_24 he hr (by omega), value]
      exact ⟨by omega, rfl⟩

section Entry

variable {p : Params} {i j : Nat}

theorem entry_axis_ne_three (hi : i < p.entries.count) : (fieldsOf (entryCode p i)).axis ≠ 3#2 :=
  axis_ne_three_of_valid (entryOf_entryCode hi).1

/-- An entry is known by the fields of its code. -/
theorem entry_eq_of_fields_eq (hi : i < p.entries.count) (hj : j < p.entries.count)
    (same : fieldsOf (entryCode p i) = fieldsOf (entryCode p j)) : i = j := by
  obtain ⟨hvi, hei⟩ := entryOf_entryCode hi
  obtain ⟨hvj, hej⟩ := entryOf_entryCode hj
  have codes : entryCode p i = entryCode p j := by
    rw [← packFields_fieldsOf (high_eq_zero_of_valid hvi), same, packFields_fieldsOf (high_eq_zero_of_valid hvj)]
  rw [codes, hej] at hei
  exact (Option.some.inj hei).symm

end Entry

/-! The border of the homogeneous form, and the lanes it stands in (R43, R115). -/

theorem elem4_castSucc (v : AlgVariant) (o : Orientation) (r c : Fin 3) :
    Spec.elem4 v o r.castSucc c.castSucc = Spec.elem v o r c := by
  simp [Spec.elem4]

theorem wordLane_column3 (p : Params) (i : Nat) (r : Fin 3) :
    wordLane (romContents p i) (laneOf p.order r.castSucc 3) = 0x00000000#32 := by
  rw [wordShows_romContents]
  fin_cases r <;> rfl

theorem wordLane_row3 (p : Params) (i : Nat) (c : Fin 3) :
    wordLane (romContents p i) (laneOf p.order 3 c.castSucc) = 0x00000000#32 := by
  rw [wordShows_romContents]
  fin_cases c <;> rfl

theorem wordLane_corner (p : Params) (i : Nat) : wordLane (romContents p i) (laneOf p.order 3 3) = 0x3F800000#32 := by
  rw [wordShows_romContents]
  rfl

/-- The border lanes are the same six in both word orders. -/
theorem borderLane_cases (order : WordOrder) : ∀ k ∈ [3, 7, 11, 12, 13, 14],
    ∃ r : Fin 3, k = laneOf order r.castSucc 3 ∨ k = laneOf order 3 r.castSucc := by
  cases order <;> decide

/-! The matrix in an entry. -/

/-- A reader of the lanes gets the matrix of the entry's code (R131 to R134). -/
theorem wordMat_romContents {p : Params} {i : Nat} (hi : i < p.entries.count) :
    wordMat p.order (romContents p i) = Spec.mat p.alg (fieldsOf (entryCode p i)) := by
  ext r c
  rw [wordMat, Matrix.of_apply, wordShows_romContents, elem4_castSucc, ← fieldsOf_eq_fields, ← tritInt_matOf,
    ← f32_eq_spec, laneInt_f32, Option.getD_some, tritInt_matOf, mat_apply _ (entry_axis_ne_three hi)]

theorem signedPerm_wordMat {p : Params} {i : Nat} (hi : i < p.entries.count) :
    Spec.SignedPerm (wordMat p.order (romContents p i)) := by
  rw [wordMat_romContents hi]
  exact (matrixIsMonomialAndOrthogonal _ _ (entry_axis_ne_three hi)).1

section QuarterTurn

theorem mat_quarterTurn_injective {o o' : Orientation} (h : o.axis ≠ 3#2) (h' : o'.axis ≠ 3#2)
    (same : Spec.mat .quarterTurn o = Spec.mat .quarterTurn o') : o = o' := by
  obtain ⟨axes, signs⟩ := (mat_eq_mat_iff .quarterTurn h h').mp same
  rw [← orientationOf_axis_sign h, axes, signs, orientationOf_axis_sign h']

variable {p : Params} (halg : p.alg = .quarterTurn)

include halg

theorem det_wordMat {i : Nat} (hi : i < p.entries.count) :
    (wordMat p.order (romContents p i)).det = if (fieldsOf (entryCode p i)).flip = 0#1 then 1 else -1 := by
  rw [wordMat_romContents hi, halg, det_mat_quarterTurn (entry_axis_ne_three hi)]

/-- Under QUARTER_TURN no two entries hold one matrix. -/
theorem entry_eq_of_wordMat_eq {i j : Nat} (hi : i < p.entries.count) (hj : j < p.entries.count)
    (same : wordMat p.order (romContents p i) = wordMat p.order (romContents p j)) : i = j := by
  rw [wordMat_romContents hi, wordMat_romContents hj, halg] at same
  exact entry_eq_of_fields_eq hi hj
    (mat_quarterTurn_injective (entry_axis_ne_three hi) (entry_axis_ne_three hj) same)

/-- A matrix stands in one entry if the code of its orientation has an entry. -/
theorem existsUnique_entry_of_matrix {M : Matrix (Fin 3) (Fin 3) Int} (hM : Spec.SignedPerm M)
    (stored : ∀ o : Orientation, o.axis ≠ 3#2 → Spec.mat .quarterTurn o = M → Spec.HasEntry p (packFields o)) :
    ∃! i, i < p.entries.count ∧ wordMat p.order (romContents p i) = M := by
  obtain ⟨o, ⟨haxis, hmat⟩, -⟩ := existsUnique_orientation_of_matrix hM
  have hv := valid_packFields haxis
  obtain ⟨i, he⟩ := (hasEntry_iff p _).mp (stored o haxis hmat)
  have hi := entryOf_lt p _ hv i he
  have hword : wordMat p.order (romContents p i) = M := by
    rw [wordMat_romContents hi, entryCode_of_entryOf hv he, fieldsOf_packFields, halg, hmat]
  exact ⟨i, ⟨hi, hword⟩, fun j ⟨hj, hj'⟩ => entry_eq_of_wordMat_eq halg hj hi (hj'.trans hword.symm)⟩

end QuarterTurn

/-! The LITERAL tables: flip does what toggling bit 0 of rot does, so a matrix is known by its flip-free orientation. -/

/-- The flip-free orientation with the same LITERAL matrix (R112). -/
def unflipped (o : Orientation) : Orientation :=
  if o.flip = 0#1 then o else { o with flip := 0#1, rot := o.rot ^^^ 1#2 }

theorem unflipped_axis (o : Orientation) : (unflipped o).axis = o.axis := by
  unfold unflipped; split <;> rfl

theorem unflipped_flip (o : Orientation) : (unflipped o).flip = 0#1 := by
  unfold unflipped; split
  · assumption
  · rfl

theorem mat_unflipped {o : Orientation} (h : o.axis ≠ 3#2) : Spec.mat .literal (unflipped o) = Spec.mat .literal o := by
  obtain ⟨rot, sign, flip, axis⟩ := o
  obtain rfl | rfl := BitVec.eq_zero_or_eq_one flip
  · rfl
  · obtain ⟨-, -, -, -, flip_eq_toggle⟩ := matricesAreTheWholeCubeGroup
    exact (flip_eq_toggle ⟨rot, sign, 1, axis⟩ h).symm

/-- A list of orientations has as many different LITERAL matrices as different flip-free orientations. -/
theorem length_dedup_mat_literal {l : List Orientation} (hl : ∀ o ∈ l, o.axis ≠ 3#2) :
    (l.map (Spec.mat .literal)).dedup.length = (l.map unflipped).dedup.length := by
  have through : l.map (Spec.mat .literal) = (l.map unflipped).map (Spec.mat .literal) := by
    rw [List.map_map]
    exact List.map_congr_left fun o ho => (mat_unflipped (hl o ho)).symm
  have image : ((l.map unflipped).map (Spec.mat .literal)).toFinset =
      (l.map unflipped).toFinset.image (Spec.mat .literal) := by ext; simp
  rw [through, ← List.card_toFinset, ← List.card_toFinset, image, Finset.card_image_of_injOn]
  intro a ha b hb same
  obtain ⟨o, ho, rfl⟩ := List.mem_map.mp (List.mem_toFinset.mp ha)
  obtain ⟨o', ho', rfl⟩ := List.mem_map.mp (List.mem_toFinset.mp hb)
  exact literal_mat_injective_of_unflipped (by rw [unflipped_axis]; exact hl o ho)
    (by rw [unflipped_axis]; exact hl o' ho') (unflipped_flip o) (unflipped_flip o') same

/-- The LITERAL matrices of determinant -1 are those of the orientations with rot + flip odd (R111). -/
theorem length_mirrored_mat_literal {l : List Orientation} (hl : ∀ o ∈ l, o.axis ≠ 3#2) :
    ((l.map (Spec.mat .literal)).filter fun M => M.det = -1).length =
      (l.filter fun o => o.rot.toNat % 2 ≠ o.flip.toNat).length := by
  rw [List.filter_map, List.length_map]
  congr 1
  refine List.filter_congr fun o ho => ?_
  simp only [Function.comp_apply, det_mat_literal (hl o ho), decide_eq_decide]
  split <;> simp [*]

/-- The orientations of a table's codes, in index order. -/
def romOrientations (p : Params) : List Orientation :=
  (List.range p.entries.count).map fun i => fieldsOf (entryCode p i)

theorem romOrientations_axis (p : Params) : ∀ o ∈ romOrientations p, o.axis ≠ 3#2 := by
  intro o ho
  obtain ⟨i, hi, rfl⟩ := List.mem_map.mp ho
  exact entry_axis_ne_three (List.mem_range.mp hi)

theorem romMats_eq (p : Params) : Spec.romMats p = (romOrientations p).map (Spec.mat p.alg) := by
  rw [romOrientations, List.map_map]
  exact List.map_congr_left fun i hi => wordMat_romContents (List.mem_range.mp hi)

theorem romCensus_literal {p : Params} (h : p.alg = .literal) :
    Spec.romCensus p = (((romOrientations p).map unflipped).dedup.length,
      ((romOrientations p).filter fun o => o.rot.toNat % 2 ≠ o.flip.toNat).length) := by
  rw [Spec.romCensus, romMats_eq, h, length_dedup_mat_literal (romOrientations_axis p),
    length_mirrored_mat_literal (romOrientations_axis p)]

/-! The ROM beside MB. -/

/-- An OK lookup is of a valid code and gives the word of its matrix (R135 to R138). -/
theorem wordShows_of_lookup_ok {p : Params} {c : Byte} (h : (lookup p [] c).2 = .ok) :
    valid c = true ∧ Spec.WordShows p c (lookup p [] c).1 := by
  obtain ⟨-, hl⟩ | ⟨-, -, hl⟩ | ⟨i, hv, he, hl⟩ := lookup_cases p [] c
  · simp [hl] at h
  · simp [hl] at h
  · have hword := wordShows_romContents p i
    rw [entryCode_of_entryOf hv he] at hword
    exact ⟨hv, by rwa [hl]⟩

/-- Both units drive the pattern of one element (R143). -/
theorem wordLane_lookup_eq_mfLane {p : Params} {c : Byte} (h : (lookup p [] c).2 = .ok) (r k : Fin 3) :
    wordLane (lookup p [] c).1 (laneOf p.order r.castSucc k.castSucc) =
      mfLane (mbOut p.alg (fieldsOf c)) (3 * k.val + r.val) := by
  obtain ⟨hv, hword⟩ := wordShows_of_lookup_ok h
  obtain ⟨-, -, -, -, -, hmf⟩ :=
    (mbShows_mbOut p.alg (fieldsOf c)).2 (toNat_axis_ne_three (axis_ne_three_of_valid hv))
  rw [hword, elem4_castSucc, hmf, fieldsOf_eq_fields]

end Sys2Proof.Machine

open Sys2Proof Sys2Proof.Machine

/-- Settles O36: each word shows its entry's code, which is the index itself in the 48-entry table and in its first half. -/
theorem entriesHoldTheMatrixOfTheirCode : Obligations.EntriesHoldTheMatrixOfTheirCode := by
  intro p i hi
  refine ⟨fun hfull => ?full, fun he hr => ?compressed, fun he hr => ?prefixed, ?corner, fun k hk => ?border⟩
  case full => exact entryCode_of_full hfull i ▸ wordShows_romContents p i
  case compressed =>
    have code : BitVec.ofNat 8 (16 * (i / 8) + i % 8) = entryCode p i := by
      rw [he, Entries.count] at hi
      have index : (BitVec.ofNat 5 i).toNat = i := Nat.mod_eq_of_lt (by omega)
      rw [entryCode_of_compressed he hr, ← BitVec.toNat_inj, toNat_code24, index]
      exact Nat.mod_eq_of_lt (by omega)
    exact code ▸ wordShows_romContents p i
  case prefixed =>
    have code48 : entryCode { p with entries := .e48 } i = BitVec.ofNat 8 i := entryCode_of_full (.inl rfl) i
    simp only [romContents, entryMat, entryCode_of_full (.inr hr), code48]
  case corner =>
    have lane15 : laneOf p.order 3 3 = 15 := by cases p.order <;> rfl
    exact lane15 ▸ wordLane_corner p i
  case border =>
    obtain ⟨r, rfl | rfl⟩ := borderLane_cases p.order k hk
    · exact wordLane_column3 p i r
    · exact wordLane_row3 p i r

/-- Settles O37: the entry is the compressed index where flip is 0, or the code itself below 24. -/
theorem twentyFourEntryMappings : Obligations.TwentyFourEntryMappings := by
  intro p m c he hv
  have range := (valid_iff c).mp hv
  refine ⟨fun hr => ⟨fun hf => ⟨?noFlip, ?codes⟩, fun hf => ⟨?index, fun d hvd hfd same => ?injective⟩⟩,
    fun hr => ⟨fun hc => ?above, fun hc => lookup_of_entry p m hv (entryOf_of_lt_24 he hr hc)⟩⟩
  case noFlip =>
    rw [flip_fieldsOf_eq_one_iff] at hf
    exact lookup_of_noEntry p m hv ((entryOf_eq_none_iff p c).mpr (by simp [Spec.HasEntry, he, hr, hf]))
  case codes =>
    rw [flip_fieldsOf_eq_one_iff] at hf
    rw [Spec.Valid] at range
    omega
  case index => rw [← toNat_idx24]; exact lookup_of_entry p m hv (entryOf_of_unflipped he hr hf)
  case injective => rw [← code24_idx24 hvd hfd, same, code24_idx24 hv hf]
  case above =>
    exact lookup_of_noEntry p m hv ((entryOf_eq_none_iff p c).mpr (by simp [Spec.HasEntry, he, hr, hc]))

/-- Settles O39: the entries are orientations, whose matrices under QUARTER_TURN are all different and are the whole cube
group; the LITERAL tables are counted by their flip-free orientations. -/
theorem romContentsLaws : Obligations.RomContentsLaws := by
  refine fun p => ⟨fun i _ => ⟨fun r => ⟨wordLane_column3 p i r, wordLane_row3 p i r⟩, wordLane_corner p i⟩,
    fun halg he => ?full, fun halg he hr => ?compressed, fun halg he hr => ?prefixed, fun halg => ?literal⟩
  case full =>
    have count : p.entries.count = 48 := by rw [he]; rfl
    rw [← count]
    refine ⟨fun M hM => existsUnique_entry_of_matrix halg hM fun o _ _ => .inl he,
      fun i hi => ⟨signedPerm_wordMat hi, ?_⟩⟩
    simp only [det_wordMat halg hi, flip_fieldsOf_eq_zero_iff, toNat_entryCode_of_full (.inl he) hi]
  case compressed =>
    have count : p.entries.count = 24 := by rw [he]; rfl
    rw [← count]
    refine ⟨fun M hM hdet => existsUnique_entry_of_matrix halg hM fun o haxis hmat => ?_, fun i hi => ?_⟩
    · have hflip : o.flip = 0#1 := by
        by_contra mirrored
        rw [← hmat, det_mat_quarterTurn haxis, if_neg mirrored] at hdet
        exact absurd hdet (by decide)
      refine .inr (.inl ⟨he, hr, ?_⟩)
      rw [← flip_fieldsOf_eq_zero_iff, fieldsOf_packFields, hflip]
    · rw [det_wordMat halg hi, entryCode_of_compressed he hr, code24_flip, if_pos rfl]
  case prefixed =>
    have count : p.entries.count = 24 := by rw [he]; rfl
    rw [← count]
    refine ⟨fun i j => entry_eq_of_wordMat_eq halg, fun i hi => ?_⟩
    have block : i / 8 % 2 = 0 ↔ i < 8 ∨ 16 ≤ i := by omega
    simp only [det_wordMat halg hi, flip_fieldsOf_eq_zero_iff, toNat_entryCode_of_full (.inr hr) hi, block]
  case literal =>
    rw [romCensus_literal halg, romOrientations]
    cases he : p.entries with
    | e48 => simp only [entryCode_of_full (.inl he)]; decide
    | e24 =>
      cases hr : p.rom24 with
      | compressed => simp only [entryCode_of_compressed he hr]; decide
      | prefixed => simp only [entryCode_of_full (.inr hr)]; decide

/-- Settles O40: DEC gives MB the fields of the code whose word the ROM shows. -/
theorem romAgreesWithMatrixBuilder : Obligations.RomAgreesWithMatrixBuilder := by
  intro i s hreg hintact hdec hmb hrom
  refine ⟨_, exec_eq_present i s, ?_⟩
  rw [romPort_present hreg hrom, mbPort_present hdec hmb, hintact]
  exact fun hok r k => ⟨wordLane_lookup_eq_mfLane hok r k, fun horder => by
    simpa [horder, laneOf] using wordLane_lookup_eq_mfLane hok r k⟩
end

section
/-! PROOFS. Reset: what a rising edge with `rst = 1` does to the output register. -/

namespace Sys2Proof.Machine

/-- `rst` wins over `rom_en`, and neither the old contents nor the code at `rom_code` matter (R140, R182). -/
theorem present_q_of_resetEdge {c : Byte} {s : State} {en : Bool} (hclk : s.drive.clk = .rise true en)
    (hreg : s.params.outReg = true) : (present c s).q = .reset := by
  rw [present_q_of_rise c s hclk hreg, nextOutReg, if_pos rfl]

theorem romPort_present_resetEdge {c : Byte} {s : State} {en : Bool} (hclk : s.drive.clk = .rise true en)
    (hreg : s.params.outReg = true) : romPort (present c s) = ⟨0, .ok, false⟩ := by
  rw [romPort_of_registered (by simpa using hreg), present_q_of_resetEdge hclk hreg]
  rfl

/-- A transaction with a code presents its byte, once its drive is the current one (R69). -/
theorem step_code {s : State} {d : Drive} {c : Byte} {rest : List Txn} (hs : s.script = .code d c :: rest)
    (fits : (Txn.code d c).wellFormed s.params = true) :
    step s = .next (present c ((s.setScript rest).setDrive d)) := by
  rw [step_of_cons hs fits, afterTxn, encodeByte_decodeByte]

end Sys2Proof.Machine

open Sys2Proof Sys2Proof.Machine

/-- Settles O33: the step presents the code at a reset edge, which leaves the register at its reset values, and a unit that
is not driven keeps its levels. -/
theorem resetEdgeClearsTheRegister : Obligations.ResetEdgeClearsTheRegister := by
  intro s d en c rest hreg hs fits hclk
  let u := (s.setScript rest).setDrive d
  exact ⟨present c u, step_code hs fits, romPort_present_resetEdge hclk hreg, present_q_of_resetEdge hclk hreg,
    present_rom c u, congrArg Ports.romCode (present_ports c u), decPort_present_undriven (s := u),
    encPort_present_undriven (s := u), mbPort_present_undriven (s := u)⟩
end
